-- ==== Sys2Proof/Word.lean ====
section
/-! DEFINITION. The word types of the SL84: 16-bit words, 32-bit TSC values, and the masks. -/
namespace Sys2Proof

/-- A word is 16 bits (00, Conventions). -/
abbrev Word := BitVec 16

/-- A value of the Timestamp Counter, in microseconds modulo 2³² (R55). -/
abbrev Time := BitVec 32

/-- A set of light channels, bit n for channel n. -/
abbrev ChannelMask := BitVec 8

/-- A set of trigger sources, bit k for source k (R3). -/
abbrev SourceMask := BitVec 5

/-- A trigger source: 0 to 3 are the pins, 4 is SOFT_TRIGGER (R3). -/
abbrev Source := Fin 5

/-- The word that holds a number (the number is taken modulo 2¹⁶). -/
abbrev word (n : Nat) : Word := BitVec.ofNat 16 n

end Sys2Proof
end

