-- ==== Sys2Proof/Syntax.lean ====
section
/-! DEFINITION. The commands of the SL84: one constructor per row of spec/opcode_table.json. -/
namespace Sys2Proof

/-- The words of a slot's header sector that the spec names (R145, R146). A generation and a check value
are 32 bits, two words each. -/
inductive HeaderField where
  | bodyMarker | label | generationLow | generationHigh | length | definedSteps | checkLow | checkHigh
  | commitWord
  deriving DecidableEq, Repr

/-- The words of a start-up sector that the spec names (R149). -/
inductive StartupField where
  | generationLow | generationHigh | bootSlot | autorun | checkLow | checkHigh
  deriving DecidableEq, Repr

/-- A word of the Recipe Store's array (R145): in a slot's header sector, in a slot's image (word 0 to 4095
of its eight image sectors), or in one of the start-up sectors 54 (copy 0) and 55 (copy 1). -/
inductive StoredWord where
  | header (slot : Fin 6) (field : HeaderField)
  | image (slot : Fin 6) (index : Fin 4096)
  | startup (copy : Fin 2) (field : StartupField)
  deriving DecidableEq, Repr

/-- A command: a command code written to COMMAND, a bus access, a pin event, a timed event or an event of the
array. The arguments of the command codes stand in ARG0 to ARG3 (R166) and are no operands. -/
inductive Instr where
  -- commands taken by a write to COMMAND (R167)
  | run
  | stop
  | pause
  | resume
  | step
  | softTrigger
  | commit
  | cancelCommit
  | copyActive
  | clearStaging
  | openLoad
  | openRead
  | closePort
  | unlockChannel
  | pulseSync
  | flushRecords
  | clearCounters
  | save
  | load
  | erase
  | setStartup
  | abortStore
  | softReset
  | unknownCommand (code : Word)
  -- reads with a side effect (R182)
  | tscLoRead
  | rec9Read
  | tpDataWrite (w : Word)
  | tpDataRead
  -- register writes
  | statusFlagsWrite (w : Word)
  | chEnableWrite (w : Word)
  | syncConfigWrite (w : Word)
  | chCeilingWrite (w : Word)
  | policyWrite (w : Word)
  | recThresholdWrite (w : Word)
  | irqEnableWrite (w : Word)
  | registerWrite (addr : BitVec 6) (w : Word)
  -- pin events
  | triggerEdge (input : Fin 4) (level : Bool)
  | faultAssert (channel : Fin 8)
  | faultLineFall (channel : Fin 8)
  | hardwareReset
  | resetEnd
  -- timed events
  | millisecondEvent
  | holdTimerExpiry
  | dueInstant
  | gateWidthEnd (channel : Fin 8)
  | syncStart (output : Fin 4)
  | syncEnd (output : Fin 4)
  | gapEnd
  | holdoffWindowClose (input : Fin 4)
  -- events of the array
  | eraseAttemptDone (verified : Bool)
  | programStepDone (verified : Bool)
  | sectorReadDone
  | storedWordChange (place : StoredWord) (flip : Word)
  deriving DecidableEq, Repr

end Sys2Proof
end

