-- ==== Sys2Proof/Decode.lean ====
section
/-! DEFINITION. Reading commands from words: decodeTableWord over the rows that give bits (none does), and the
codes that a write to COMMAND takes (R167, R168). -/
namespace Sys2Proof

/-- The code that software writes to COMMAND for a command (the table of R168); none for the rows that are not
taken by a write to COMMAND. -/
def commandCode : Instr → Option Word
  | .run => some 0x01
  | .stop => some 0x02
  | .pause => some 0x03
  | .resume => some 0x04
  | .step => some 0x05
  | .softTrigger => some 0x06
  | .commit => some 0x10
  | .cancelCommit => some 0x11
  | .copyActive => some 0x12
  | .clearStaging => some 0x13
  | .openLoad => some 0x18
  | .openRead => some 0x19
  | .closePort => some 0x1A
  | .unlockChannel => some 0x20
  | .pulseSync => some 0x21
  | .flushRecords => some 0x28
  | .clearCounters => some 0x29
  | .save => some 0x30
  | .load => some 0x31
  | .erase => some 0x32
  | .setStartup => some 0x33
  | .abortStore => some 0x34
  | .softReset => some 0x3F
  | .unknownCommand code => some code
  | _ => none

/-- The command that a word written to COMMAND takes: the whole written word is the code, and a code that is not
in the table is an UNKNOWN_COMMAND, 0 among them (R167). -/
def commandOfCode (code : Word) : Instr :=
  match code.toNat with
  | 0x01 => .run
  | 0x02 => .stop
  | 0x03 => .pause
  | 0x04 => .resume
  | 0x05 => .step
  | 0x06 => .softTrigger
  | 0x10 => .commit
  | 0x11 => .cancelCommit
  | 0x12 => .copyActive
  | 0x13 => .clearStaging
  | 0x18 => .openLoad
  | 0x19 => .openRead
  | 0x1A => .closePort
  | 0x20 => .unlockChannel
  | 0x21 => .pulseSync
  | 0x28 => .flushRecords
  | 0x29 => .clearCounters
  | 0x30 => .save
  | 0x31 => .load
  | 0x32 => .erase
  | 0x33 => .setStartup
  | 0x34 => .abortStore
  | 0x3F => .softReset
  | _ => .unknownCommand code

/-- Whether a code is in the command table (R168). -/
def knownCode (code : Word) : Bool := commandOfCode code != .unknownCommand code

/-- The command a word spells by the bits of spec/opcode_table.json. No row of the table gives bits, so no word
spells a command. -/
def decodeTableWord (_nbits _w : Nat) : Option Instr := none

end Sys2Proof
end

