-- ==== Sys2Proof/Config.lean ====
section
/-! DEFINITION. What one part fixes and the spec does not give a value for, and the free values. -/
namespace Sys2Proof.Config

/-- What an erased word of the array reads as. PRESUMED (log 7): the flash family's all ones. -/
def erased : Word := 0xFFFF

/-- The body marker of a header sector: a fixed word that differs from the erased value and from the
commit word (R146). DESIGN CHOICE (log 7): only these two differences matter. -/
def bodyMarker : Word := 0x5184

/-- The commit word of a header sector: a fixed marker (R146). DESIGN CHOICE (log 7). -/
def commitWord : Word := 0xC03D

/-- What two erased words of the array read as. -/
def erasedPair : BitVec 32 := erased ++ erased

/-- FREE VALUE (log 2): where an event is placed among those due in the same microsecond. `n` says which
placing it is, `k` how many other events there are; the value is taken modulo `k + 1`. -/
opaque freePlace (n k : Nat) : Nat

/-- FREE VALUE (log 8): whether the sector that a step failed on, or was cut off in, reads as it did
before that step. -/
opaque freeKept (n : Nat) : Bool

/-- FREE VALUE (log 8): word `k` of an image sector that a step failed on, or was cut off in. -/
opaque freeWord (n k : Nat) : Word

/-- FREE VALUE (log 8): whether a sector step that hardware reset cut off had already done the whole of its erase or
program, with only its verify cut off. -/
opaque freeWhole (n : Nat) : Bool

/-- FREE VALUE (log 6): the figure of a slot's check value, computed from the header body and the image (R146). -/
opaque checkValue (label : Word) (generation : BitVec 32) (length definedSteps : Word) (image : List Word) : BitVec 32

/-- FREE VALUE (log 15): how many steps beyond a whole pass complete in the microsecond in which the TSC stands at `n`,
when none of them takes any time. -/
opaque freeSteps (n : Nat) : Nat

end Sys2Proof.Config
end

