-- ==== Sys2Proof/Machine/State.lean ====
section
/-! DEFINITION. The state of the SL84 as plain data, its reset, and the reasons a step can stop. -/
namespace Sys2Proof.Machine

/-! ### The program (R1 to R7) -/

/-- What begins a step (R3). -/
inductive Advance where
  | immediate
  | trigger (mask : SourceMask)
  deriving DecidableEq, Repr

/-- A channel entry of a step record (R4). -/
structure ChannelEntry where
  channel : Fin 8
  level : BitVec 10
  width : Word
  deriving DecidableEq, Repr

/-- A sync entry of a step record (R5). -/
structure SyncEntry where
  output : Fin 4
  width : BitVec 14
  delay : Word
  deriving DecidableEq, Repr

/-- A step record (R2). -/
structure StepRecord where
  tag : BitVec 8
  advance : Advance
  delay : Word
  gap : Word
  channels : List ChannelEntry
  syncs : List SyncEntry
  deriving DecidableEq, Repr

/-- An order entry (R7). The repeat count, 1 to 16, is held less 1, as its word holds it (10.4). -/
structure OrderEntry where
  step : Fin 128
  repeatLess1 : Fin 16
  haltAfter : Bool
  deriving DecidableEq, Repr

/-- One bank: a Step Table of 128 entries, UNDEFINED (`none`) or defined (R1), and an Order List (R6), whose length
L is the list's. -/
structure Bank where
  steps : Vector (Option StepRecord) 128
  order : List OrderEntry
  deriving DecidableEq, Repr

/-- The two physical banks (1.3). -/
inductive BankId where
  | a | b
  deriving DecidableEq, Repr

/-- Table Memory: the banks, the role marker (R8), the commit-pending marker (R15) and the INCOMPLETE marker (R11). -/
structure TableMemory where
  bankA : Bank
  bankB : Bank
  active : BankId
  commitPending : Bool
  incomplete : Bool
  deriving DecidableEq, Repr

/-! ### Timebase and triggers (R55 to R73) -/

/-- The TSC (R55), the TSC_HI snapshot (R56) and the millisecond divider (R57). `msDue` is set between the divider's
1000th count and the taking of the millisecond event (log 3), and `completions` is the number of gap ends delivered since
the last microsecond (log 15): both are the model's own. -/
structure Timebase where
  tsc : Time
  snapshot : Word
  divider : Nat
  msDue : Bool
  completions : Nat
  deriving DecidableEq, Repr

/-- The edge select of a trigger input (R58). -/
inductive EdgeSelect where
  | off | rising | falling | both
  deriving DecidableEq, Repr

/-- One trigger input (3.2): its settings, the level of its pin, and its holdoff window, closed (`none`) or open until
a TSC value (R59). -/
structure TriggerInput where
  select : EdgeSelect
  holdoff : Word
  level : Bool
  window : Option Time
  deriving DecidableEq, Repr

/-- An entry of the Trigger Queue (R65). -/
structure Arrival where
  source : Source
  time : Time
  deriving DecidableEq, Repr

/-- The Trigger Unit: its inputs, the Trigger Queue with the oldest entry first (R65), and the late tolerance (R71). -/
structure TriggerUnit where
  inputs : Vector TriggerInput 4
  queue : List Arrival
  lateTolerance : Word
  deriving DecidableEq, Repr

/-! ### Light channels (R74 to R102) -/

/-- An open gate: the level presented on LVLn and the closing time (R76, R80). -/
structure OpenGate where
  level : BitVec 10
  closing : Time
  deriving DecidableEq, Repr

/-- One light channel (R74). `faultLine` is the level of FLTn (R96). -/
structure Channel where
  enabled : Bool
  locked : Bool
  gate : Option OpenGate
  trim : Word
  ceiling : Word
  rate : Word
  credit : Word
  faultLine : Bool
  deriving DecidableEq, Repr

/-- The Channel Unit: CH_SELECT (R79) and the eight channels. -/
structure ChannelUnit where
  select : Fin 8
  channel : Vector Channel 8
  deriving DecidableEq, Repr

/-! ### Sync outputs (R103 to R112) -/

inductive Polarity where
  | activeHigh | activeLow
  deriving DecidableEq, Repr

inductive PulseKind where
  | stepPulse | manual
  deriving DecidableEq, Repr

/-- The output state (R103) with the kind and the times that are present in it. Only a STEP pulse is ever
SCHEDULED (R108). -/
inductive Pulse where
  | idle
  | scheduled (start finish : Time)
  | active (kind : PulseKind) (finish : Time)
  deriving DecidableEq, Repr

structure SyncOutput where
  polarity : Polarity
  enabled : Bool
  pulse : Pulse
  deriving DecidableEq, Repr

/-! ### The Sequencer (R23 to R54) -/

inductive SeqState where
  | stopped | waiting | delaying | held | exposing | settling | paused
  deriving DecidableEq, Repr

inductive HoldReason where
  | none | recordSpace | credit
  deriving DecidableEq, Repr

inductive StopReason where
  | none | host | finished | channelFault | creditAbort | holdTimeout | reset
  deriving DecidableEq, Repr

inductive RunMode where
  | onePass | passes | continuous | manual
  deriving DecidableEq, Repr

/-- The step context (R24). `entry` is the order entry the step was entered from: its step index, and the repeat count
and HALT_AFTER that R41 examines at the completion. Until the step is begun, the fields from `source` on hold no
information. `dueReached` records that the due instant has come (R36, log 12). -/
structure StepContext where
  position : Nat
  repetition : Nat
  entry : OrderEntry
  record : StepRecord
  begun : Bool
  source : Option Source
  manual : Bool
  reference : Time
  due : Time
  dueReached : Bool
  lit : ChannelMask
  skipped : ChannelMask
  cut : ChannelMask
  late : Bool
  syncCut : Bool
  creditShort : Bool
  faultSeen : Bool
  exposureStart : Option Time
  lateness : Time
  lastGateClose : Option Time
  lastSyncEnd : Option Time
  gapStart : Option Time
  deriving DecidableEq, Repr

/-- The Sequencer's state (R23). -/
structure Sequencer where
  state : SeqState
  hold : HoldReason
  stopReason : StopReason
  mode : RunMode
  passesRequested : Word
  passesTaken : Word
  position : Nat
  repetition : Nat
  passCount : Word
  sequence : Word
  pauseRequest : Bool
  holdTimer : Option Nat
  holdTimeout : Word
  context : Option StepContext
  deriving DecidableEq, Repr

/-! ### Shot records (R113 to R127) -/

inductive ShotOutcome where
  | done | stopped | aborted
  deriving DecidableEq, Repr

/-- A shot record (R113). -/
structure ShotRecord where
  sequence : Word
  step : Fin 128
  tag : BitVec 8
  position : Nat
  repetition : Nat
  source : Option Source
  pass : Word
  outcome : ShotOutcome
  exposed : Bool
  late : Bool
  manual : Bool
  syncCut : Bool
  creditShort : Bool
  faultSeen : Bool
  lit : ChannelMask
  skipped : ChannelMask
  cut : ChannelMask
  lateness : Word
  time : Time
  deriving DecidableEq, Repr

/-- The Record Unit (R118): the Record Queue with the head first, the reservation marker, the waiting request, and the
threshold (R124). -/
structure RecordUnit where
  queue : List ShotRecord
  reserved : Bool
  waitingRequest : Bool
  threshold : Word
  deriving DecidableEq, Repr

/-! ### Policies (the POLICY register) -/

inductive GuardPolicy where
  | skip | hold | abort
  deriving DecidableEq, Repr

inductive FaultPolicy where
  | continue | stop
  deriving DecidableEq, Repr

inductive RecordPolicy where
  | hold | drop
  deriving DecidableEq, Repr

inductive AcceptancePolicy where
  | queueAny | onlyWhenWaiting
  deriving DecidableEq, Repr

/-- The four policies of POLICY (R64, R95, R119). -/
structure Policies where
  guardPolicy : GuardPolicy
  faultPolicy : FaultPolicy
  recordPolicy : RecordPolicy
  acceptance : AcceptancePolicy
  deriving DecidableEq, Repr

/-! ### The Table Port (R128 to R144) -/

inductive SessionKind where
  | none | load | read | desync
  deriving DecidableEq, Repr

inductive TableKind where
  | steps | order
  deriving DecidableEq, Repr

/-- The role by which a session or a SAVE names a bank (1.3). -/
inductive BankRole where
  | active | staging
  deriving DecidableEq, Repr

/-- The port errors (R141). -/
inductive PortError where
  | none | partialRecord | badHeader | badField | duplicate | tableFull | wrongDirection | noSession | sessionEnded
  deriving DecidableEq, Repr

/-- The Table Port (R128). `beyond` holds the entries of an ORDER load session that were stored at or beyond L, in
their order (R137). -/
structure TablePort where
  kind : SessionKind
  table : TableKind
  bank : BankRole
  start : Nat
  next : Nat
  wordPos : Nat
  assembly : List Word
  written : Nat
  beyond : List OrderEntry
  tableFull : Bool
  lastError : PortError
  errorIndex : Word
  deriving DecidableEq, Repr

/-! ### Recipe Store and start-up (R145 to R165) -/

/-- The images of the slots by word address: word k of slot s's eight image sectors is at 4096 × s + k. Addresses rise
strictly, and no entry equals what an unlisted address reads as, the erased word (log 7). -/
abbrev Memory := List (Nat × Word)

/-- The check value of a slot (R146), held as the words it was computed from; `flip` says which bits of the stored value
have changed since (log 6). -/
structure SlotCheck where
  label : Word
  generation : BitVec 32
  length : Word
  definedSteps : Word
  image : List Word
  flip : BitVec 32
  deriving DecidableEq, Repr

/-- The fields of a programmed header sector (R145), as plain numbers (log 25). `check` is absent until it is programmed
with the commit word. -/
structure HeaderWords where
  marker : Word
  label : Word
  generation : BitVec 32
  length : Word
  definedSteps : Word
  check : Option SlotCheck
  commit : Word
  deriving DecidableEq, Repr

/-- A slot's header sector: erased, left by a step that was cut off or failed, or programmed (R146). -/
inductive HeaderSector where
  | blank
  | spoiled
  | written (w : HeaderWords)
  deriving DecidableEq, Repr

/-- The check value of a start-up copy (R149), held as the words it was computed from (log 6). -/
structure StartupCheck where
  generation : BitVec 32
  bootSlot : Word
  autorun : Word
  flip : BitVec 32
  deriving DecidableEq, Repr

/-- The fields of a programmed start-up sector (R149). DESIGN CHOICE (log 25): the words of the boot slot and of the
autorun mode hold the codes that BOOT_INFO and SET_STARTUP give them (10.3, R158); R149 gives them none in the sector. -/
structure StartupWords where
  generation : BitVec 32
  bootSlot : Word
  autorun : Word
  check : StartupCheck
  deriving DecidableEq, Repr

/-- A start-up sector (R149). -/
inductive StartupSector where
  | blank
  | spoiled
  | written (w : StartupWords)
  deriving DecidableEq, Repr

/-- The array (R145): six header sectors, the images of the slots, and sectors 54 (copy 0) and 55 (copy 1). -/
structure StoreArray where
  headers : Vector HeaderSector 6
  images : Memory
  startups : Vector StartupSector 2
  deriving DecidableEq, Repr

inductive SlotState where
  | empty | valid | damaged | writing
  deriving DecidableEq, Repr

/-- A directory entry (R147). -/
structure DirectoryEntry where
  state : SlotState
  label : Word
  generation : BitVec 32
  deriving DecidableEq, Repr

inductive Autorun where
  | off | onePass | continuous
  deriving DecidableEq, Repr

/-- The start-up record (R149); `bootSlot` is `none` for NONE. -/
structure StartupRecord where
  generation : BitVec 32
  bootSlot : Option (Fin 6)
  autorun : Autorun
  deriving DecidableEq, Repr

/-- Where a SAVE stands (R154): erasing the slot's sector `sector` (0 the header) with `failed` attempts behind it, or
programming (0 the header body, 1 to 8 the image sectors, 9 the check value and the commit word). -/
inductive SaveProgress where
  | erasing (sector failed : Nat)
  | programming (part : Nat)
  deriving DecidableEq, Repr

/-- Where a SET_STARTUP stands (R158). -/
inductive StartupProgress where
  | erasing (failed : Nat)
  | programming
  deriving DecidableEq, Repr

/-- The reading of a slot into the staging bank, by LOAD or by the boot (R156): how many sectors have been read, the
header as read, the image words read so far, whether an area was marked as mismatched, and how many areas made
their entries defined. -/
structure LoadProgress where
  slot : Fin 6
  sectorsRead : Nat
  header : HeaderSector
  words : List Word
  mismatch : Bool
  definedAreas : Nat
  deriving DecidableEq, Repr

/-- The store operation in flight (R150). A SAVE keeps the physical bank that its source names at its acceptance
(R153). -/
inductive StoreJob where
  | idle
  | save (slot : Fin 6) (source : BankRole) (bank : BankId) (label : Word) (generation : BitVec 32)
      (progress : SaveProgress)
  | load (progress : LoadProgress)
  | erase (slot : Fin 6) (sector failed : Nat)
  | setStartup (bootSlot : Option (Fin 6)) (autorun : Autorun) (target : Fin 2) (progress : StartupProgress)
  deriving DecidableEq, Repr

inductive StoreOperation where
  | none | save | load | erase | setStartup
  deriving DecidableEq, Repr

inductive StoreOutcome where
  | ok | aborted | eraseFailed | programFailed | checkFailed
  deriving DecidableEq, Repr

/-- Where the start-up scan and the boot stand (R161, R162); the part is BOOTING in every phase but `done`. -/
inductive BootPhase where
  | done
  | scanHeader (slot : Fin 6)
  | scanImage (slot : Fin 6) (header : HeaderWords) (sectorsRead : Nat) (words : List Word)
  | scanStartup54
  | scanStartup55 (first : Option StartupRecord)
  | load (progress : LoadProgress)
  deriving DecidableEq, Repr

inductive BootOutcome where
  | notSet | loaded | slotEmpty | slotDamaged | checkFailed | invalid
  deriving DecidableEq, Repr

/-- The Store Controller and the Recipe Store. `operation`, `slot`, `abortPending` and `outcome` are those of
STORE_STATUS (R151), with slot 7 for NONE. `quiet` is set when SOFT_RESET has ended the operation, whose end then
sets no STORE_DONE (R165). `currentCopy` is the sector that holds the current start-up record (R149). -/
structure StoreController where
  array : StoreArray
  directory : Vector DirectoryEntry 6
  dirSelect : Fin 6
  current : StartupRecord
  currentCopy : Option (Fin 2)
  job : StoreJob
  operation : StoreOperation
  slot : BitVec 3
  abortPending : Bool
  quiet : Bool
  outcome : StoreOutcome
  boot : BootPhase
  bootOutcome : BootOutcome
  deriving DecidableEq, Repr

/-! ### Commands, status and interrupts (R166 to R179) -/

/-- The result codes of CMD_RESULT (R168). -/
inductive ResultCode where
  | accepted | unknownCommand | badArgument | wrongState | booting | storeBusy | commitPending | portOpen
  | stagingIncomplete | validationFailed | emptyProgram | slotEmpty | slotDamaged | faultPresent
  deriving DecidableEq, Repr

/-- The Command Unit (R166). -/
structure CommandUnit where
  arg : Vector Word 4
  last : Word
  result : ResultCode
  detail : Word
  deriving DecidableEq, Repr

/-- STATUS_FLAGS without the RECORD_READY level (R175) and IRQ_ENABLE (R178), as words with the bits of 10.3. -/
structure StatusUnit where
  flags : Word
  irqEnable : Word
  deriving DecidableEq, Repr

/-- CNT_SELECT and the nine counters by their index (R172). -/
structure Counters where
  select : Fin 9
  value : Vector Word 9
  deriving DecidableEq, Repr

/-- The whole state. `inReset` says that RSTn is asserted (R185). `readData` is the word that the last read with a
side effect returned (R182, log 14). `pending` is the queue of waiting commands, and `freeCount` the number of
free values taken (log 8): both are the model's own. -/
structure State where
  inReset : Bool
  timebase : Timebase
  triggers : TriggerUnit
  channels : ChannelUnit
  syncs : Vector SyncOutput 4
  seq : Sequencer
  tables : TableMemory
  port : TablePort
  records : RecordUnit
  store : StoreController
  policy : Policies
  cmd : CommandUnit
  status : StatusUnit
  counters : Counters
  readData : Word
  freeCount : Nat
  pending : List Instr
  deriving DecidableEq, Repr

/-- No command of this block stops the machine: a fault of a light channel, of a register write or of a port access is
an effect on the state (R97, R175, R141). The type has no constructor. -/
inductive Fault where
  deriving DecidableEq, Repr

/-- The reasons for a refusal. -/
inductive Refusal where
  /-- Raised by exec for a row that has no meaning yet; safe. Every row has one, so nothing raises it. -/
  | notModelled (mnemonic : String)
  deriving DecidableEq, Repr

/-! ### Reset values -/

/-- A cleared bank (R21). -/
def Bank.empty : Bank := { steps := Vector.replicate 128 none, order := [] }

/-- Table Memory after hardware reset (R21). -/
def TableMemory.reset : TableMemory :=
  { bankA := Bank.empty, bankB := Bank.empty, active := .a, commitPending := false, incomplete := false }

/-- The timebase as hardware reset ends (R73). -/
def Timebase.reset : Timebase := { tsc := 0, snapshot := 0, divider := 0, msDue := false, completions := 0 }

/-- A trigger input after hardware reset, with the level of its pin (R58, R73). -/
def TriggerInput.reset (level : Bool) : TriggerInput :=
  { select := .off, holdoff := 0, level := level, window := none }

/-- The Trigger Unit after hardware reset, given the levels of its pins (R73). -/
def TriggerUnit.reset (level : Fin 4 → Bool) : TriggerUnit :=
  { inputs := Vector.ofFn fun i => TriggerInput.reset (level i), queue := [], lateTolerance := 0 }

/-- A light channel after hardware reset, given the level of its fault line (R101). -/
def Channel.reset (faultLine : Bool) : Channel :=
  { enabled := false, locked := false, gate := none, trim := 256, ceiling := 65535, rate := 4095, credit := 65535,
    faultLine := faultLine }

/-- The Channel Unit after hardware reset, given the levels of the fault lines (R101). -/
def ChannelUnit.reset (faultLine : Fin 8 → Bool) : ChannelUnit :=
  { select := 0, channel := Vector.ofFn fun i => Channel.reset (faultLine i) }

/-- A sync output after hardware reset (R103). -/
def SyncOutput.reset : SyncOutput := { polarity := .activeHigh, enabled := false, pulse := .idle }

/-- The Sequencer after hardware reset (R53). -/
def Sequencer.reset : Sequencer :=
  { state := .stopped, hold := .none, stopReason := .none, mode := .onePass, passesRequested := 1, passesTaken := 0,
    position := 0, repetition := 1, passCount := 0, sequence := 0, pauseRequest := false, holdTimer := none,
    holdTimeout := 0, context := none }

/-- The Record Unit after hardware reset (R126). -/
def RecordUnit.reset : RecordUnit := { queue := [], reserved := false, waitingRequest := false, threshold := 1 }

/-- The policies after hardware reset (R64, R95, R119). -/
def Policies.reset : Policies :=
  { guardPolicy := .skip, faultPolicy := .continue, recordPolicy := .hold, acceptance := .queueAny }

/-- The Table Port after hardware reset (R144). DESIGN CHOICE (log 24): the start index outside a session, which R144's
table does not list, is 0. -/
def TablePort.reset : TablePort :=
  { kind := .none, table := .steps, bank := .active, start := 0, next := 0, wordPos := 0, assembly := [], written := 0,
    beyond := [], tableFull := false, lastError := .none, errorIndex := 0 }

/-- A directory entry of an EMPTY slot, or of one that the scan has not judged (R147, R184). -/
def DirectoryEntry.empty : DirectoryEntry := { state := .empty, label := 0, generation := 0 }

/-- The start-up record when neither copy is valid, or before the scan has chosen (R149, R184). -/
def StartupRecord.absent : StartupRecord := { generation := 0, bootSlot := none, autorun := .off }

/-- The Store Controller after hardware reset, with the array as it stands (R165). -/
def StoreController.reset (array : StoreArray) (boot : BootPhase) : StoreController :=
  { array := array, directory := Vector.replicate 6 DirectoryEntry.empty, dirSelect := 0, current := StartupRecord.absent,
    currentCopy := none, job := .idle, operation := .none, slot := 0, abortPending := false, quiet := false, outcome := .ok,
    boot := boot, bootOutcome := .notSet }

/-- An array in which every sector reads erased. -/
def StoreArray.blank : StoreArray :=
  { headers := Vector.replicate 6 .blank, images := [], startups := Vector.replicate 2 .blank }

/-- The Command Unit after hardware reset (R166). -/
def CommandUnit.reset : CommandUnit := { arg := Vector.replicate 4 0, last := 0, result := .accepted, detail := 0 }

/-- Interrupt & Status after hardware reset (R177, R178). -/
def StatusUnit.reset : StatusUnit := { flags := 0, irqEnable := 0 }

/-- The counters after hardware reset (R172). -/
def Counters.reset : Counters := { select := 0, value := Vector.replicate 9 0 }

/-- The machine as hardware reset ends (R185): every block at its value for hardware reset, BOOTING, the start-up scan
at its first read. DESIGN CHOICE (log 5): the array is erased and every trigger pin and fault line is low;
`readData` is 0 (log 14) and `freeCount` 0 (log 8). -/
def State.reset : State :=
  { inReset := false
    timebase := Timebase.reset
    triggers := TriggerUnit.reset fun _ => false
    channels := ChannelUnit.reset fun _ => false
    syncs := Vector.replicate 4 SyncOutput.reset
    seq := Sequencer.reset
    tables := TableMemory.reset
    port := TablePort.reset
    records := RecordUnit.reset
    store := StoreController.reset StoreArray.blank (.scanHeader 0)
    policy := Policies.reset
    cmd := CommandUnit.reset
    status := StatusUnit.reset
    counters := Counters.reset
    readData := 0
    freeCount := 0
    pending := [] }

end Sys2Proof.Machine
end

