-- ==== Sys2Proof/Machine/Operands.lean ====
section
/-! DEFINITION. Bit fields of words, and the words of step records and order entries (10.4): their encoding, their
decoding and the checks of R135. -/
namespace Sys2Proof.Machine

/-- The field in bits `hi` to `lo` of a word, as a number. -/
def bits (w : Word) (hi lo : Nat) : Nat := w.toNat / 2 ^ lo % 2 ^ (hi + 1 - lo)

/-- Bit `i` of a word. -/
def bit (w : Word) (i : Nat) : Bool := w.getLsbD i

/-- A flag as a number, for packing. -/
def flagNat (b : Bool) : Nat := if b then 1 else 0

/-- The eight channels, in order. -/
def allChannels : List (Fin 8) := [0, 1, 2, 3, 4, 5, 6, 7]

/-- The four sync outputs (or trigger inputs), in order. -/
def allFour : List (Fin 4) := [0, 1, 2, 3]

/-- The set of the channels for which `p` holds. -/
def maskOf (p : Fin 8 → Bool) : ChannelMask := BitVec.ofBoolListLE [p 0, p 1, p 2, p 3, p 4, p 5, p 6, p 7]

/-- Whether a channel is in a set. -/
def inMask (m : ChannelMask) (i : Fin 8) : Bool := m.getLsbD i.val

/-- Whether a source is in a source mask (R3). -/
def accepts (m : SourceMask) (src : Source) : Bool := m.getLsbD src.val

/-! ### Order entries -/

/-- The repeat count, 1 to 16 (R7). -/
def OrderEntry.count (e : OrderEntry) : Nat := e.repeatLess1.val + 1

/-- The order entry that a word encodes; bits outside the fields are disregarded (R137, 10.4). -/
def decodeOrder (w : Word) : OrderEntry :=
  { step := Fin.ofNat 128 (bits w 6 0), repeatLess1 := Fin.ofNat 16 (bits w 15 12), haltAfter := bit w 11 }

/-- The word that encodes an order entry (R139, 10.4). -/
def encodeOrder (e : OrderEntry) : Word :=
  word (e.repeatLess1.val * 4096 + flagNat e.haltAfter * 2048 + e.step.val)

/-! ### Step records -/

/-- The channel count that a header word declares (10.4). -/
def headerChannels (h : Word) : Nat := bits h 7 4

/-- The sync count that a header word declares (10.4). -/
def headerSyncs (h : Word) : Nat := bits h 2 0

/-- Whether the counts of a header word are in range (R133, R134). -/
def headerLegal (h : Word) : Bool := headerChannels h ≤ 8 && headerSyncs h ≤ 4

/-- The record length that a header word declares (R133). -/
def declaredLength (h : Word) : Nat := 4 + 2 * headerChannels h + 2 * headerSyncs h

/-- The advance that an advance word declares; an IMMEDIATE advance keeps no mask (R3, R135). -/
def decodeAdvance (w : Word) : Except PortError Advance :=
  match bits w 15 14 with
  | 0 => .ok .immediate
  | 1 => if bits w 4 0 = 0 then .error .badField else .ok (.trigger (BitVec.ofNat 5 (bits w 4 0)))
  | _ => .error .badField

/-- The first `n` channel entries of the words, given the channels that earlier entries name, and the words behind
them. Within an entry the level is checked before the width, and both before the duplicate test (R135). -/
def decodeChannels : Nat → List (Fin 8) → List Word → Except PortError (List ChannelEntry × List Word)
  | 0, _, ws => .ok ([], ws)
  | n + 1, earlier, w :: width :: ws =>
    if bits w 9 0 = 0 then .error .badField
    else if width = 0 then .error .badField
    else if earlier.contains (Fin.ofNat 8 (bits w 15 13)) then .error .duplicate
    else
      match decodeChannels n (Fin.ofNat 8 (bits w 15 13) :: earlier) ws with
      | .ok (es, rest) =>
        .ok ({ channel := Fin.ofNat 8 (bits w 15 13), level := BitVec.ofNat 10 (bits w 9 0), width := width } :: es, rest)
      | .error e => .error e
  | _ + 1, _, _ => .error .badField

/-- The first `n` sync entries of the words, given the outputs that earlier entries name, and the words behind them
(R135). -/
def decodeSyncs : Nat → List (Fin 4) → List Word → Except PortError (List SyncEntry × List Word)
  | 0, _, ws => .ok ([], ws)
  | n + 1, earlier, w :: delay :: ws =>
    if bits w 13 0 = 0 then .error .badField
    else if earlier.contains (Fin.ofNat 4 (bits w 15 14)) then .error .duplicate
    else
      match decodeSyncs n (Fin.ofNat 4 (bits w 15 14) :: earlier) ws with
      | .ok (es, rest) =>
        .ok ({ output := Fin.ofNat 4 (bits w 15 14), width := BitVec.ofNat 14 (bits w 13 0), delay := delay } :: es, rest)
      | .error e => .error e
  | _ + 1, _, _ => .error .badField

/-- The step record that the words hold, or the error of the first check that fails, in record order (R133 to R135).
Words behind the declared length are disregarded. -/
def decodeRecord : List Word → Except PortError StepRecord
  | header :: advance :: delay :: gap :: ws =>
    if headerLegal header then
      match decodeAdvance advance with
      | .error e => .error e
      | .ok adv =>
        match decodeChannels (headerChannels header) [] ws with
        | .error e => .error e
        | .ok (chs, ws') =>
          match decodeSyncs (headerSyncs header) [] ws' with
          | .error e => .error e
          | .ok (ss, _) =>
            .ok { tag := BitVec.ofNat 8 (bits header 15 8), advance := adv, delay := delay, gap := gap, channels := chs,
                  syncs := ss }
    else .error .badHeader
  | _ => .error .badHeader

/-- The advance word of a record; an IMMEDIATE advance carries the empty mask (R138). -/
def encodeAdvance : Advance → Word
  | .immediate => 0
  | .trigger mask => word (16384 + mask.toNat)

/-- The two words of a channel entry (10.4). -/
def encodeChannel (e : ChannelEntry) : List Word := [word (e.channel.val * 8192 + e.level.toNat), e.width]

/-- The two words of a sync entry (10.4). -/
def encodeSync (e : SyncEntry) : List Word := [word (e.output.val * 16384 + e.width.toNat), e.delay]

/-- The header word of a record (10.4). -/
def encodeHeader (r : StepRecord) : Word := word (r.tag.toNat * 256 + r.channels.length * 16 + r.syncs.length)

/-- The words of a step record (R138, 10.4). -/
def encodeRecord (r : StepRecord) : List Word :=
  encodeHeader r :: encodeAdvance r.advance :: r.delay :: r.gap ::
    (r.channels.flatMap encodeChannel ++ r.syncs.flatMap encodeSync)

/-- The image of a Step Table entry: its record's words, or the single word 0xFFFF when it is UNDEFINED (R138). -/
def stepImage : Option StepRecord → List Word
  | none => [0xFFFF]
  | some r => encodeRecord r

/-- Whether a step record's fields lie in the ranges of R2 to R5. -/
def StepRecord.wf (r : StepRecord) : Bool :=
  (match r.advance with
    | .immediate => true
    | .trigger mask => mask != 0) &&
  decide (r.channels.length ≤ 8) && decide (r.syncs.length ≤ 4) &&
  r.channels.all (fun e => e.level != 0 && e.width != 0) &&
  r.syncs.all (fun e => e.width != 0) &&
  decide ((r.channels.map (·.channel)).Nodup) && decide ((r.syncs.map (·.output)).Nodup)

/-- What a step area of a store image holds (R156). -/
inductive AreaReading where
  | undefined
  | defined (r : StepRecord)
  | illegal
  deriving DecidableEq, Repr

/-- The reading of a step area: UNDEFINED for a header word of 0xFFFF, a record that passes the Table Port's checks, or
anything else (R156). -/
def readArea (area : List Word) : AreaReading :=
  if area.head? = some 0xFFFF then .undefined
  else
    match decodeRecord area with
    | .ok r => .defined r
    | .error _ => .illegal

end Sys2Proof.Machine
end

