-- ==== Sys2Proof/Machine/Flags.lean ====
section
/-! DEFINITION. The sticky flags (R175), the RECORD_READY level (R124), the interrupt line (R179) and the counters
(R172). -/
namespace Sys2Proof.Machine

/-! The bits of STATUS_FLAGS (10.3). -/
def seqStoppedFlag : Word := 0x0001
def seqPausedFlag : Word := 0x0002
def passEndFlag : Word := 0x0004
def commitTakenFlag : Word := 0x0008
def storeDoneFlag : Word := 0x0010
def trigOverrunFlag : Word := 0x0020
def recordLostFlag : Word := 0x0040
def creditShortFlag : Word := 0x0080
def channelFaultFlag : Word := 0x0100
def heldFlag : Word := 0x0200
def portErrorFlag : Word := 0x0400
def writeIgnoredFlag : Word := 0x0800
def bootDoneFlag : Word := 0x1000

/-- The bits of the thirteen flags (R175). -/
def flagBits : Word := 0x1FFF

/-- The bits of the fourteen enables of IRQ_ENABLE (R178). -/
def enableBits : Word := 0x9FFF

/-- Sets a sticky flag; a flag already set stays set (R175). -/
def raise (flag : Word) (s : State) : State :=
  { s with status := { s.status with flags := s.status.flags ||| flag } }

/-- Whether a flag is set. -/
def isRaised (flag : Word) (s : State) : Bool := s.status.flags &&& flag != 0

/-- RECORD_READY: the number of records in the queue is at least the threshold (R124). -/
def recordReady (s : State) : Bool := s.records.threshold.toNat ≤ s.records.queue.length

/-- The word that STATUS_FLAGS reads as: the flags and the RECORD_READY level (R175). -/
def statusWord (s : State) : Word := s.status.flags ||| if recordReady s then 0x8000 else 0

/-- IRQn is asserted while a flag is set whose enable is set, or RECORD_READY is true with its enable set; hardware reset
releases it (R179, R185). -/
def irqAsserted (s : State) : Bool := !s.inReset && statusWord s &&& s.status.irqEnable != 0

/-! The counters by index (R172). -/
def overrunCounter : Fin 9 := 0
def earlyCounter : Fin 9 := 1
def strayCounter : Fin 9 := 2
def suppressedCounter (input : Fin 4) : Fin 9 := ⟨3 + input.val, by omega⟩
def recordLostCounter : Fin 9 := 7
def creditShortCounter : Fin 9 := 8

/-- A count raised by `n`, held at 65535 (R72, R172). -/
def satAdd (w : Word) (n : Nat) : Word := word (min 65535 (w.toNat + n))

/-- Adds `n` to a counter, which saturates at 65535 (R172). -/
def countUp (i : Fin 9) (n : Nat) (s : State) : State :=
  { s with counters := { s.counters with value := s.counters.value.set i (satAdd s.counters.value[i] n) } }

/-- All nine counters at 0 together (R173). -/
def zeroCounters (s : State) : State :=
  { s with counters := { s.counters with value := Vector.replicate 9 0 } }

end Sys2Proof.Machine
end

