-- ==== Sys2Proof/Machine/Ops.lean ====
section
/-! DEFINITION. The shared operations: time, the array's memory, the banks, validation and the swap, the Table Port's
errors and closes, shot records, gates and pulses, and the transition of the Sequencer to STOPPED (R46). -/
namespace Sys2Proof.Machine

/-! ### Time -/

/-- The time from `ref` to `now`, modulo 2³² (R55). -/
def elapsed (now ref : Time) : Nat := (now - ref).toNat

/-- Whether the time `t`, fixed at most 2³¹ µs ahead, has come (log 19). -/
def hasCome (now t : Time) : Bool := elapsed now t < 2147483648

/-! ### The memory of the store images -/

/-- The canonical form: addresses rise strictly and no entry holds the erased word. -/
abbrev Memory.wf (m : Memory) : Prop :=
  m.Pairwise (fun x y => x.1 < y.1) ∧ ∀ c ∈ m, c.2 ≠ Config.erased

/-- The word at an address; an unlisted address reads erased. -/
def Memory.read (m : Memory) (a : Nat) : Word :=
  match m.lookup a with
  | some w => w
  | none => Config.erased

/-- The entries that hold the words from an address on. -/
def Memory.entries : Nat → List Word → Memory
  | _, [] => []
  | a, w :: ws => if w = Config.erased then Memory.entries (a + 1) ws else (a, w) :: Memory.entries (a + 1) ws

/-- The words from an address on replaced. -/
def Memory.program (m : Memory) (a : Nat) (ws : List Word) : Memory :=
  m.filter (fun c => c.1 < a) ++ Memory.entries a ws ++ m.filter (fun c => a + ws.length ≤ c.1)

/-- The `n` words from an address on. -/
def Memory.slice (m : Memory) (a n : Nat) : List Word := (List.range n).map fun k => m.read (a + k)

/-- The address of the first word of image sector `k`, 1 to 8, of a slot (R145). -/
def imageBase (slot : Fin 6) (k : Nat) : Nat := 4096 * slot.val + 512 * (k - 1)

/-- What a sector erased blank holds: 512 erased words. -/
def erasedSector : List Word := List.replicate 512 Config.erased

/-- What an image sector holds that a step failed on, or was cut off in: free words (log 8). -/
def freeSector (n : Nat) : List Word := (List.range 512).map fun k => Config.freeWord n k

/-! ### Banks -/

def BankId.other : BankId → BankId
  | .a => .b
  | .b => .a

def TableMemory.bank (t : TableMemory) : BankId → Bank
  | .a => t.bankA
  | .b => t.bankB

def TableMemory.setBank (t : TableMemory) (i : BankId) (b : Bank) : TableMemory :=
  match i with
  | .a => { t with bankA := b }
  | .b => { t with bankB := b }

/-- The physical bank that a role names (R8). -/
def TableMemory.ofRole (t : TableMemory) : BankRole → BankId
  | .active => t.active
  | .staging => t.active.other

/-- The bank that the Sequencer plays (R8). -/
def activeBank (s : State) : Bank := s.tables.bank s.tables.active

/-- The bank that software prepares (R8, R10). -/
def stagingBank (s : State) : Bank := s.tables.bank s.tables.active.other

/-- The staging bank replaced. -/
def setStaging (b : Bank) (s : State) : State :=
  { s with tables := s.tables.setBank s.tables.active.other b }

/-- Validation (R12, R13): `none` when the bank passes, else the failure detail: 0xFFFF for an empty Order List, or the
lowest position whose entry names an UNDEFINED step. -/
def Bank.validate (b : Bank) : Option Word :=
  if b.order = [] then some 0xFFFF
  else (b.order.findIdx? fun e => (b.steps[e.step]).isNone).map word

/-- The step record at an order entry. -/
def Bank.recordOf (b : Bank) (e : OrderEntry) : Option StepRecord := b.steps[e.step]

/-- The number of defined steps of a bank (R154). -/
def Bank.definedSteps (b : Bank) : Nat := b.steps.toList.countP (·.isSome)

/-! ### The Table Port -/

/-- A port error: the last port error, its index and PORT_ERROR together (R141). -/
def portError (e : PortError) (index : Word) (s : State) : State :=
  raise portErrorFlag { s with port := { s.port with lastError := e, errorIndex := index } }

/-- The end of a session: state NONE, and all of it discarded but the next index and the word position (R128). DESIGN
CHOICE (log 24): the start index, which R128 names neither among what is kept nor among what is discarded, is 0 then. -/
def endSession (s : State) : State :=
  { s with port := { s.port with kind := .none, table := .steps, bank := .active, start := 0, assembly := [], written := 0,
                                 beyond := [], tableFull := false } }

/-- The end of a read session whose bank is replaced (R142). -/
def sessionEnded (s : State) : State := portError .sessionEnded (word s.port.next) (endSession s)

/-- Ends a read session on either bank (R16). -/
def endReadSession (s : State) : State := if s.port.kind = .read then sessionEnded s else s

/-- Ends a read session on the staging bank (R19, R20, R155). -/
def endStagingRead (s : State) : State :=
  if s.port.kind = .read ∧ s.port.bank = .staging then sessionEnded s else s

/-- Whether a load session is open, DESYNC counting as one (R128). -/
def loadSession (s : State) : Bool := s.port.kind = .load || s.port.kind = .desync

/-! ### The Store Controller's state as other blocks see it -/

/-- A store operation is in flight (R151). -/
def storeBusy (s : State) : Bool := s.store.job != .idle

/-- A SAVE is in flight. -/
def saveInFlight (s : State) : Bool :=
  match s.store.job with
  | .save .. => true
  | _ => false

/-- A SAVE whose source is the staging bank is in flight (R129). -/
def saveOfStagingInFlight (s : State) : Bool :=
  match s.store.job with
  | .save _ .staging _ _ _ _ => true
  | _ => false

/-- A LOAD is in flight. -/
def loadInFlight (s : State) : Bool :=
  match s.store.job with
  | .load _ => true
  | _ => false

/-- The part is BOOTING (R161). -/
def booting (s : State) : Bool := s.store.boot != .done

/-! ### The commit swap -/

/-- The swap (R16): the roles exchanged, the marker cleared, the cursor at 0/1, a read session ended, COMMIT_TAKEN set. -/
def swapBanks (s : State) : State :=
  raise commitTakenFlag <| endReadSession
    { s with tables := { s.tables with active := s.tables.active.other, commitPending := false }
             seq := { s.seq with position := 0, repetition := 1 } }

/-! ### Shot records -/

/-- Every channel of a step's channel list. -/
def listedChannels (r : StepRecord) : ChannelMask := maskOf fun i => r.channels.any fun e => e.channel = i

/-- The shot record of a begun step, from its context as it stands (R113 to R117). -/
def shotRecord (outcome : ShotOutcome) (c : StepContext) (s : State) : ShotRecord :=
  let exposed := c.exposureStart.isSome
  { sequence := s.seq.sequence, step := c.entry.step, tag := c.record.tag, position := c.position,
    repetition := c.repetition, source := c.source, pass := s.seq.passCount, outcome := outcome, exposed := exposed,
    late := exposed && c.late, manual := c.manual, syncCut := exposed && c.syncCut, creditShort := c.creditShort,
    faultSeen := c.faultSeen
    lit := if exposed then c.lit else 0
    skipped := if exposed then c.skipped else listedChannels c.record
    cut := if exposed then c.cut else 0
    lateness := if exposed then word (min 65535 c.lateness.toNat) else 0
    time := c.exposureStart.getD s.timebase.tsc }

/-- Emission (R114): the sequence number is taken, and the record goes into its reserved place under HOLD (R120), or is
stored or lost under DROP (R121). -/
def emit (outcome : ShotOutcome) (c : StepContext) (s : State) : State :=
  let t := { s with seq := { s.seq with sequence := s.seq.sequence + 1 } }
  match s.policy.recordPolicy with
  | .hold => { t with records := { t.records with queue := t.records.queue ++ [shotRecord outcome c s], reserved := false } }
  | .drop =>
    if s.records.queue.length < 32 then
      { t with records := { t.records with queue := t.records.queue ++ [shotRecord outcome c s] } }
    else raise recordLostFlag (countUp recordLostCounter 1 t)

/-! ### Gates and pulses -/

/-- The channels whose gates are open. -/
def openGates (s : State) : ChannelMask := maskOf fun i => (s.channels.channel[i]).gate.isSome

/-- One channel replaced. -/
def setChannel (i : Fin 8) (ch : Channel) (s : State) : State :=
  { s with channels := { s.channels with channel := s.channels.channel.set i ch } }

/-- Every gate closed, with LVLn at 0 and no closing time (R82, R102). -/
def closeGates (s : State) : State :=
  { s with channels :=
      { s.channels with channel := Vector.ofFn fun i => { s.channels.channel[i] with gate := none } } }

/-- Whether an output carries a step pulse, SCHEDULED or ACTIVE. -/
def Pulse.isStep : Pulse → Bool
  | .scheduled _ _ => true
  | .active .stepPulse _ => true
  | _ => false

/-- Whether an output carries an ACTIVE manual pulse. -/
def Pulse.isManual : Pulse → Bool
  | .active .manual _ => true
  | _ => false

/-- A step pulse is SCHEDULED or ACTIVE on some output. -/
def stepPulses (s : State) : Bool := s.syncs.toList.any (·.pulse.isStep)

/-- A manual pulse is ACTIVE on some output. -/
def manualPulses (s : State) : Bool := s.syncs.toList.any (·.pulse.isManual)

/-- Every ACTIVE pulse cut and every SCHEDULED one cancelled (R110, R112). -/
def cutPulses (s : State) : State :=
  { s with syncs := Vector.ofFn fun i => { s.syncs[i] with pulse := .idle } }

/-- One output replaced. -/
def setOutput (i : Fin 4) (o : SyncOutput) (s : State) : State := { s with syncs := s.syncs.set i o }

/-! ### The transition to STOPPED -/

/-- The step context replaced. -/
def setContext (c : StepContext) (s : State) : State := { s with seq := { s.seq with context := some c } }

/-- The place reserved for a step, or its waiting request, given back (R32, R46). -/
def releasePlace (s : State) : State := { s with records := { s.records with reserved := false, waitingRequest := false } }

/-- The Trigger Queue emptied, its entries uncounted (R69). -/
def flushTriggers (s : State) : State := { s with triggers := { s.triggers with queue := [] } }

/-- Steps 1 and 2 of R46: a begun step's gates and pulses are cut into its record, and the record is emitted; a step
that is not begun gives back its place. -/
def accountForStep (outcome : ShotOutcome) (s : State) : State :=
  match s.seq.context with
  | none => s
  | some c =>
    if c.begun then emit outcome { c with cut := c.cut ||| openGates s, syncCut := c.syncCut || stepPulses s } s
    else releasePlace s

/-- Step 4 of R46: the pause request, the hold timer, the hold reason and the step context are cleared. -/
def clearStep (s : State) : State :=
  { s with seq := { s.seq with pauseRequest := false, holdTimer := none, hold := .none, context := none } }

/-- Step 5 of R46: a pending commit is made. -/
def swapIfPending (s : State) : State := if s.tables.commitPending then swapBanks s else s

/-- Step 6 of R46. -/
def enterStopped (why : StopReason) (s : State) : State :=
  raise seqStoppedFlag { s with seq := { s.seq with state := .stopped, stopReason := why } }

/-- The transition of the Sequencer to STOPPED, but for those of the two resets (R46). -/
def stopSequencer (why : StopReason) (s : State) : State :=
  enterStopped why <| swapIfPending <| clearStep <| flushTriggers <| cutPulses <| closeGates <|
    accountForStep (if why = .creditAbort then .aborted else .stopped) s

/-- A step is begun (R24). -/
def stepBegun (s : State) : Bool :=
  match s.seq.context with
  | some c => c.begun
  | none => false

end Sys2Proof.Machine
end

