-- ==== Sys2Proof/Machine/StepLife.lean ====
section
/-! DEFINITION. The life of a step: holds, the credit check, the exposure start, the beginning of a step, the serving of
a trigger, the entry of a step, and its completion (R31 to R45, R67, R88 to R94, R105). -/
namespace Sys2Proof.Machine

/-! ### Settling -/

/-- The gap starts when the step's last gate has closed and its last sync pulse has ended, which is now when neither is
left (R39). -/
def startGap (s : State) : State :=
  match s.seq.context with
  | some c =>
    if s.seq.state = .settling ∧ c.gapStart = none ∧ stepPulses s = false then
      setContext { c with gapStart := some s.timebase.tsc } s
    else s
  | none => s

/-- EXPOSING ends when the last gate of the step has closed; that moment is noted and SETTLING entered (R38). -/
def afterGateClose (s : State) : State :=
  match s.seq.context with
  | some c =>
    if s.seq.state = .exposing ∧ openGates s = 0 then
      startGap (setContext { c with lastGateClose := some s.timebase.tsc }
        { s with seq := { s.seq with state := .settling } })
    else s
  | none => s

/-- The end, or the cut, of a step pulse is noted as the latest end of one (R39, R106, R111). -/
def noteSyncEnd (s : State) : State :=
  match s.seq.context with
  | some c => setContext { c with lastSyncEnd := some s.timebase.tsc } s
  | none => s

/-! ### Holds -/

/-- The hold timer as an entry into HELD loads it: none for a HOLD_TIMEOUT of 0 (R44). -/
def loadedTimer (s : State) : Option Nat :=
  if s.seq.holdTimeout = 0 then none else some s.seq.holdTimeout.toNat

/-- Entry into HELD, which sets the HELD flag and starts the hold timer (R31, R43, R44). -/
def enterHeld (why : HoldReason) (s : State) : State :=
  raise heldFlag { s with seq := { s.seq with state := .held, hold := why, holdTimer := loadedTimer s } }

/-! ### The credit check -/

/-- The effective level of an entry under a trim (R76). -/
def effectiveLevel (level trim : Nat) : Nat := max 1 (level * trim / 256)

/-- The cost of an entry: effective level times width, divided by 1024 and rounded up (R87). -/
def cost (level trim width : Nat) : Nat := (effectiveLevel level trim * width + 1023) / 1024

/-- The effective level of a channel entry, from its channel's trim as it stands (R76). -/
def entryLevel (s : State) (e : ChannelEntry) : Nat :=
  effectiveLevel e.level.toNat (s.channels.channel[e.channel]).trim.toNat

/-- The cost of a channel entry, from its channel's trim as it stands (R87). -/
def entryCost (s : State) (e : ChannelEntry) : Nat :=
  cost e.level.toNat (s.channels.channel[e.channel]).trim.toNat e.width.toNat

/-- The classes of the credit check (R88). -/
inductive EntryClass where
  | skipped | unsatisfiable | short | satisfied
  deriving DecidableEq, Repr

/-- The class of an entry, given the channels that earlier checks of the step skipped: the tests in the order of
R88. -/
def classify (s : State) (earlier : ChannelMask) (e : ChannelEntry) : EntryClass :=
  let ch := s.channels.channel[e.channel]
  if inMask earlier e.channel then .skipped
  else if ch.locked || !ch.enabled then .skipped
  else if ch.ceiling.toNat < entryCost s e then .unsatisfiable
  else if ch.credit.toNat < entryCost s e then .short
  else .satisfied

/-- The channels of the entries of a class. -/
def classMask (s : State) (c : StepContext) (k : EntryClass) : ChannelMask :=
  maskOf fun i => c.record.channels.any fun e => e.channel = i && classify s c.skipped e = k

/-- Whether the check finds an entry of a class. -/
def findsClass (s : State) (c : StepContext) (k : EntryClass) : Bool :=
  c.record.channels.any fun e => classify s c.skipped e = k

/-- The answers of the credit check (R89), each with the masks it hands over. -/
inductive CheckAnswer where
  | start (lit skipped : ChannelMask)
  | hold (skipped : ChannelMask)
  | abort
  deriving DecidableEq, Repr

/-- The credit check of a step under the guard policy (R88, R89, R91 to R94). -/
def creditCheck (s : State) (c : StepContext) : CheckAnswer :=
  let skipped := classMask s c .skipped ||| classMask s c .unsatisfiable
  if findsClass s c .short then
    match s.policy.guardPolicy with
    | .skip => .start (classMask s c .satisfied) (skipped ||| classMask s c .short)
    | .hold => .hold skipped
    | .abort => .abort
  else .start (classMask s c .satisfied) skipped

/-- CREDIT_SHORT raised, once per step, when the check finds an entry short or unsatisfiable: the counter, the flag and
the marker in the context together (R90). -/
def raiseShortage (c : StepContext) (s : State) : State :=
  if (findsClass s c .short || findsClass s c .unsatisfiable) && !c.creditShort then
    raise creditShortFlag (countUp creditShortCounter 1 (setContext { c with creditShort := true } s))
  else s

/-! ### The exposure start -/

/-- The entry of a channel list that names a channel. -/
def entryFor (es : List ChannelEntry) (i : Fin 8) : Option ChannelEntry := es.find? fun e => e.channel = i

/-- The debit of a lit channel (R89) and the opening of its gate (R80). -/
def lightChannel (s : State) (lit : ChannelMask) (es : List ChannelEntry) (i : Fin 8) : Channel :=
  let ch := s.channels.channel[i]
  match entryFor es i with
  | some e =>
    if inMask lit i then
      { ch with credit := word (ch.credit.toNat - entryCost s e)
                gate := some { level := BitVec.ofNat 10 (entryLevel s e)
                               closing := s.timebase.tsc + e.width.setWidth 32 } }
    else ch
  | none => ch

/-- The lit channels debited together, and their gates opened (R80, R89). -/
def lightChannels (lit : ChannelMask) (es : List ChannelEntry) (s : State) : State :=
  { s with channels := { s.channels with channel := Vector.ofFn fun i => lightChannel s lit es i } }

/-- The pulse that a sync entry places at an exposure start: ACTIVE for delay 0, else SCHEDULED (R105). -/
def placedPulse (now : Time) (e : SyncEntry) : Pulse :=
  let start := now + e.delay.setWidth 32
  let finish := start + e.width.setWidth 32
  if e.delay = 0 then .active .stepPulse finish else .scheduled start finish

/-- An output after a step's pulses have been placed. -/
def placeOn (now : Time) (es : List SyncEntry) (i : Fin 4) (o : SyncOutput) : SyncOutput :=
  match es.find? fun e => e.output = i with
  | some e => { o with pulse := placedPulse now e }
  | none => o

/-- The step's pulses placed (R105). -/
def placePulses (es : List SyncEntry) (s : State) : State :=
  { s with syncs := Vector.ofFn fun i => placeOn s.timebase.tsc es i s.syncs[i] }

/-- The context of a step at its exposure start: the time, the lateness and LATE, the masks, and with no lit channel the
closing of its last gate (R37, R71). -/
def exposedContext (lit skipped : ChannelMask) (c : StepContext) (s : State) : StepContext :=
  { c with exposureStart := some s.timebase.tsc
           lateness := s.timebase.tsc - c.due
           late := s.triggers.lateTolerance.toNat < elapsed s.timebase.tsc c.due
           lit := lit
           skipped := skipped
           lastGateClose := if lit = 0 then some s.timebase.tsc else none }

/-- The exposure start (R37, R43). -/
def startExposure (lit skipped : ChannelMask) (c : StepContext) (s : State) : State :=
  startGap <| placePulses c.record.syncs <| lightChannels lit c.record.channels
    { s with seq := { s.seq with state := if lit = 0 then .settling else .exposing
                                 hold := .none
                                 holdTimer := none
                                 context := some (exposedContext lit skipped c s) } }

/-- The context that stands after a check has raised what it raises. -/
def checkedContext (c : StepContext) (s : State) : StepContext :=
  { c with creditShort := c.creditShort || findsClass s c .short || findsClass s c .unsatisfiable }

/-- What follows a credit check (R36, R43, R89, R93, R94): the exposure start, a hold, or the credit abort. A re-check that
still finds an entry short leaves the step in the hold it is in. -/
def afterCheck (c : StepContext) (s : State) : State :=
  let t := raiseShortage c s
  match creditCheck s c with
  | .start lit skipped => startExposure lit skipped (checkedContext c s) t
  | .hold skipped =>
    let held := setContext { checkedContext c s with skipped := skipped } t
    if s.seq.state = .held then held else enterHeld .credit held
  | .abort => stopSequencer .creditAbort t

/-- The exposure instant is reached when the due instant has come and no manual pulse is ACTIVE (R36). -/
def tryExposure (s : State) : State :=
  match s.seq.context with
  | some c => if s.seq.state = .delaying ∧ c.dueReached = true ∧ manualPulses s = false then afterCheck c s else s
  | none => s

/-- The re-check of a step held for credit (R93). -/
def recheck (s : State) : State :=
  match s.seq.context with
  | some c => if s.seq.state = .held ∧ s.seq.hold = .credit then afterCheck c s else s
  | none => s

/-! ### The beginning of a step -/

/-- The due instant has come when the time elapsed since the reference is at least the delay (R35). -/
def dueHasCome (s : State) (c : StepContext) : Bool := c.record.delay.toNat ≤ elapsed s.timebase.tsc c.reference

/-- Taking the advance begins the step (R35): its reference, source and MANUAL marker are fixed, the due instant is the
reference plus the delay, and DELAYING is entered; if the due instant has come, the exposure instant follows at once. -/
def beginStep (source : Option Source) (manual : Bool) (reference : Time) (c : StepContext) (s : State) : State :=
  let c' := { c with begun := true, source := source, manual := manual, reference := reference
                     due := reference + c.record.delay.setWidth 32 }
  tryExposure
    { s with seq := { s.seq with state := .delaying, context := some { c' with dueReached := dueHasCome s c' } } }

/-- The Trigger Unit serves a TRIGGER step: the oldest entry whose source is in the mask is handed to the step, and the
entries ahead of it are discarded and counted as STRAY; with no such entry nothing is removed (R67). -/
def serve (mask : SourceMask) (c : StepContext) (s : State) : State :=
  match s.triggers.queue.dropWhile fun a => !accepts mask a.source with
  | [] => s
  | a :: rest =>
    beginStep (some a.source) false a.time c <|
      countUp strayCounter (s.triggers.queue.length - (rest.length + 1))
        { s with triggers := { s.triggers with queue := rest } }

/-- Entry into WAITING (R33, R34): in MANUAL mode the step waits for STEP; else an IMMEDIATE step is begun and a TRIGGER
step is served from the queue. -/
def enterWaiting (c : StepContext) (s : State) : State :=
  let t := { s with seq := { s.seq with state := .waiting, hold := .none, holdTimer := none } }
  if s.seq.mode = .manual then t
  else
    match c.record.advance with
    | .immediate => beginStep none false s.timebase.tsc c t
    | .trigger mask => serve mask c t

/-- The step context as an entry creates it (R24, R31). -/
def freshContext (s : State) (e : OrderEntry) (r : StepRecord) : StepContext :=
  { position := s.seq.position, repetition := s.seq.repetition, entry := e, record := r, begun := false, source := none,
    manual := false, reference := 0, due := 0, dueReached := false, lit := 0, skipped := 0, cut := 0, late := false,
    syncCut := false, creditShort := false, faultSeen := false, exposureStart := none, lateness := 0,
    lastGateClose := none, lastSyncEnd := none, gapStart := none }

/-- The order entry at the cursor with the record it names, in the active bank (R31). -/
def atCursor (s : State) : Option (OrderEntry × StepRecord) :=
  match (activeBank s).order[s.seq.position]? with
  | some e =>
    match (activeBank s).recordOf e with
    | some r => some (e, r)
    | none => none
  | none => none

/-- The places taken in the Record Queue: the records and the reserved place (R118). -/
def placesTaken (s : State) : Nat := s.records.queue.length + flagNat s.records.reserved

/-- The Sequencer makes an entry (R31): the step at the cursor is read, its context created, and under record policy HOLD
a place asked for (R120). R9 and R25 say that the cursor names a defined step; in a state that breaks them no step is
entered (log 13). -/
def makeEntry (s : State) : State :=
  match atCursor s with
  | none => s
  | some (e, r) =>
    let t := setContext (freshContext s e r) s
    match s.policy.recordPolicy with
    | .hold =>
      if placesTaken s < 32 then
        enterWaiting (freshContext s e r) { t with records := { t.records with reserved := true } }
      else enterHeld .recordSpace { t with records := { t.records with waitingRequest := true } }
    | .drop => enterWaiting (freshContext s e r) t

/-- The grant of a freed place to the waiting request: the Sequencer leaves HELD for WAITING (R32, R123, R125). -/
def grantWaiting (s : State) : State :=
  if s.records.waitingRequest then
    let t := { s with records := { s.records with reserved := true, waitingRequest := false } }
    match s.seq.context with
    | some c => enterWaiting c t
    | none => t
  else s

/-! ### The completion of a step -/

/-- Entry into PAUSED (R42, R49). -/
def enterPaused (s : State) : State :=
  raise seqPausedFlag { s with seq := { s.seq with state := .paused, pauseRequest := false } }

/-- The run ends at a pass boundary, given the passes taken with that one (R30, R41). -/
def runEnds (q : Sequencer) : Bool :=
  match q.mode with
  | .onePass => true
  | .passes => q.passesTaken = q.passesRequested
  | .continuous => false
  | .manual => false

/-- The counts of a pass boundary (R41, step 1). -/
def countPass (s : State) : State :=
  raise passEndFlag
    { s with seq := { s.seq with passCount := satAdd s.seq.passCount 1
                                 passesTaken := if s.seq.mode = .passes then satAdd s.seq.passesTaken 1
                                                else s.seq.passesTaken } }

/-- A pass boundary (R41): the pass counted, a pending commit swapped, and the cursor at 0/1. -/
def passBoundary (s : State) : State :=
  let t := swapIfPending (countPass s)
  { t with seq := { t.seq with position := 0, repetition := 1 } }

/-- What follows an advanced cursor when the run goes on (R42): PAUSED after the last repetition of a HALT_AFTER entry or
with a pause request latched, else the next entry. -/
def goOn (halt : Bool) (s : State) : State :=
  if halt || s.seq.pauseRequest then enterPaused s else makeEntry s

/-- The completion of a step (R40 to R42): the DONE record is emitted, the context discarded, the cursor advanced. -/
def completeStep (c : StepContext) (s : State) : State :=
  let t := emit .done c s
  let t := { t with seq := { t.seq with context := none } }
  if s.seq.repetition < c.entry.count then
    goOn false { t with seq := { t.seq with repetition := s.seq.repetition + 1 } }
  else if s.seq.position + 1 < (activeBank s).order.length then
    goOn c.entry.haltAfter { t with seq := { t.seq with position := s.seq.position + 1, repetition := 1 } }
  else
    let t := passBoundary t
    if runEnds t.seq then stopSequencer .finished t else goOn c.entry.haltAfter t

/-! ### Arrivals -/

/-- The acceptance check: whether an arrival is dropped as EARLY (R63). -/
def isEarly (source : Source) (s : State) : Bool :=
  s.seq.state = .stopped || s.seq.mode = .manual ||
    (s.policy.acceptance = .onlyWhenWaiting &&
      !(s.seq.state = .waiting &&
        match s.seq.context with
        | some c =>
          match c.record.advance with
          | .trigger mask => accepts mask source
          | .immediate => false
        | none => false))

/-- A waiting TRIGGER step is served when an arrival is enqueued (R67). -/
def serveWaiting (s : State) : State :=
  match s.seq.context with
  | some c =>
    match c.record.advance with
    | .trigger mask => if s.seq.state = .waiting then serve mask c s else s
    | .immediate => s
  | none => s

/-- An arrival (R63, R66, R67): dropped as EARLY, dropped as an overrun, or enqueued, after which a waiting step is
served. -/
def arrive (source : Source) (s : State) : State :=
  if isEarly source s then countUp earlyCounter 1 s
  else if s.triggers.queue.length < 8 then
    serveWaiting { s with triggers :=
      { s.triggers with queue := s.triggers.queue ++ [{ source := source, time := s.timebase.tsc }] } }
  else raise trigOverrunFlag (countUp overrunCounter 1 s)

end Sys2Proof.Machine
end

