-- ==== Sys2Proof/Machine/CommandUnit.lean ====
section
/-! DEFINITION. Taking a command (R166 to R169), and what a bus access meets while RSTn is asserted (R185). -/
namespace Sys2Proof.Machine

/-- The verdict of a command: the last command code, CMD_RESULT and CMD_DETAIL (R166, R168). -/
def verdict (code : Word) (r : ResultCode) (detail : Word) (s : State) : State :=
  { s with cmd := { s.cmd with last := code, result := r, detail := detail } }

/-- An argument register (R166). -/
def arg (i : Fin 4) (s : State) : Nat := (s.cmd.arg[i]).toNat

/-- The refusals of an owner, in the order of its list: the first that applies (R167), with CMD_DETAIL 0 (R168). -/
def firstRefusal : List (Bool × ResultCode) → Option (ResultCode × Word)
  | [] => none
  | (applies, r) :: rest => if applies then some (r, 0) else firstRefusal rest

/-- A known command taken: the checks of R167 from the second on, and the owner's effect when none applies. A write while
RSTn is asserted is ignored (R185). -/
def takeCommand (code : Word) (argsInRange : Bool) (refusal : Option (ResultCode × Word)) (effect : State → State)
    (s : State) : State :=
  if s.inReset then s
  else if booting s then verdict code .booting 0 s
  else if !argsInRange then verdict code .badArgument 0 s
  else
    match refusal with
    | some (r, detail) => verdict code r detail s
    | none => effect (verdict code .accepted 0 s)

/-- An event that the part cannot have while RSTn is asserted (R185). -/
def outOfReset (effect : State → State) (s : State) : State := if s.inReset then s else effect s

/-- A read with a side effect: the word it returns and the state it leaves; while RSTn is asserted it returns 0 and has
no effect (R182, R185). -/
def readAccess (value : State → Word) (effect : State → State) (s : State) : State :=
  if s.inReset then { s with readData := 0 } else { effect s with readData := value s }

/-- A register write left without effect for its value or for the Sequencer's state (R175). -/
def writeIgnored (s : State) : State := raise writeIgnoredFlag s

/-- A write of a code that is not in the command table (R167): UNKNOWN_COMMAND is the first check, BOOTING or not. -/
def takeUnknown (code : Word) (s : State) : State := outOfReset (verdict code .unknownCommand 0) s

end Sys2Proof.Machine
end

