-- ==== Sys2Proof/Machine/RunControl.lean ====
section
/-! DEFINITION. RUN, STOP, PAUSE, RESUME, STEP and SOFT_TRIGGER (R28, R29, R34, R47, R49, R51, R62). -/
namespace Sys2Proof.Machine

/-- The run mode that RUN's ARG0 names (R28). -/
def runModeOf : Nat → RunMode
  | 0 => .onePass
  | 1 => .passes
  | 2 => .continuous
  | _ => .manual

/-- The passes requested that a RUN leaves (R29): ARG1 in PASSES mode, 1 in ONE_PASS mode, else as they were. -/
def requestedPasses (mode : RunMode) (passes old : Word) : Word :=
  match mode with
  | .passes => passes
  | .onePass => 1
  | .continuous => old
  | .manual => old

/-- What an accepted RUN does (R29), and the boot's autorun (R162). -/
def startRun (mode : RunMode) (passes : Word) (fromBegin : Bool) (s : State) : State :=
  let q := { s.seq with mode := mode, passesRequested := requestedPasses mode passes s.seq.passesRequested, passesTaken := 0,
                        stopReason := .none, pauseRequest := false }
  let q := if fromBegin then { q with position := 0, repetition := 1, passCount := 0, sequence := 0 } else q
  makeEntry (flushTriggers { s with seq := q })

/-- RUN (0x01). -/
def takeRun (s : State) : State :=
  takeCommand 0x01
    (arg 0 s ≤ 3 && arg 2 s ≤ 1 && !(arg 0 s = 1 && arg 1 s = 0))
    (firstRefusal [(s.seq.state != .stopped, .wrongState), ((activeBank s).order = [], .emptyProgram)])
    (startRun (runModeOf (arg 0 s)) s.cmd.arg[1] (arg 2 s = 0)) s

/-- STOP (0x02). -/
def takeStop (s : State) : State :=
  takeCommand 0x02 true (firstRefusal [(s.seq.state = .stopped, .wrongState)]) (stopSequencer .host) s

/-- PAUSE of a step that is not begun: the step is left and PAUSED entered (R49). -/
def pauseNow (s : State) : State :=
  enterPaused
    (releasePlace { s with seq := { s.seq with holdTimer := none, hold := .none, context := none } })

/-- The effect of an accepted PAUSE by state (R49). -/
def pauseEffect (s : State) : State :=
  if s.seq.state = .waiting ∨ (s.seq.state = .held ∧ s.seq.hold = .recordSpace) then pauseNow s
  else { s with seq := { s.seq with pauseRequest := true } }

/-- PAUSE (0x03). -/
def takePause (s : State) : State :=
  takeCommand 0x03 true
    (firstRefusal [(s.seq.state = .paused, .wrongState), (s.seq.state = .stopped, .wrongState)]) pauseEffect s

/-- RESUME (0x04). -/
def takeResume (s : State) : State :=
  takeCommand 0x04 true (firstRefusal [(s.seq.state != .paused, .wrongState)]) makeEntry s

/-- The advance of the waiting step taken by STEP (R34). -/
def stepEffect (s : State) : State :=
  match s.seq.context with
  | some c => beginStep none true s.timebase.tsc c s
  | none => s

/-- STEP (0x05). -/
def takeStep (s : State) : State :=
  takeCommand 0x05 true
    (firstRefusal [(!(s.seq.mode = .manual && s.seq.state = .waiting), .wrongState)]) stepEffect s

/-- SOFT_TRIGGER (0x06). -/
def takeSoftTrigger (s : State) : State := takeCommand 0x06 true none (arrive 4) s

/-- The row RUN. -/
def execRun (s : State) : Host.Outcome State Fault Refusal := .next (takeRun s)

/-- The row STOP. -/
def execStop (s : State) : Host.Outcome State Fault Refusal := .next (takeStop s)

/-- The row PAUSE. -/
def execPause (s : State) : Host.Outcome State Fault Refusal := .next (takePause s)

/-- The row RESUME. -/
def execResume (s : State) : Host.Outcome State Fault Refusal := .next (takeResume s)

/-- The row STEP. -/
def execStep (s : State) : Host.Outcome State Fault Refusal := .next (takeStep s)

/-- The row SOFT_TRIGGER. -/
def execSoftTrigger (s : State) : Host.Outcome State Fault Refusal := .next (takeSoftTrigger s)

end Sys2Proof.Machine
end

