-- ==== Sys2Proof/Machine/Store.lean ====
section
/-! DEFINITION. The Store Controller and the Recipe Store: SAVE, LOAD, ERASE, SET_STARTUP, ABORT_STORE, the completions of
their sector steps, and STORED_WORD_CHANGE (R145 to R160, R164). -/
namespace Sys2Proof.Machine

/-! ### The array -/

/-- The conditions of a slot header (R146). -/
inductive HeaderCondition where
  | blank | committed | uncommitted | unreadable
  deriving DecidableEq, Repr

/-- A header body is well-formed when its marker reads as programmed, its L lies from 0 to 512 and its number of defined
steps from 0 to 128 (R146). -/
def HeaderWords.wellFormed (w : HeaderWords) : Bool :=
  w.marker = Config.bodyMarker && w.length.toNat ≤ 512 && w.definedSteps.toNat ≤ 128

/-- The check value as it is stored: the figure computed, with the bits that have changed since (log 6). -/
def SlotCheck.stored (c : SlotCheck) : BitVec 32 :=
  Config.checkValue c.label c.generation c.length c.definedSteps c.image ^^^ c.flip

/-- Every word of a header that has been programmed reads erased, as changes of its words may make it (R146). -/
def HeaderWords.readsErased (w : HeaderWords) : Bool :=
  w.marker = Config.erased && w.label = Config.erased && w.generation = Config.erasedPair && w.length = Config.erased &&
    w.definedSteps = Config.erased && w.commit = Config.erased && w.check.all fun c => c.stored = Config.erasedPair

/-- The condition of a header sector when it is read (R146). -/
def HeaderSector.condition : HeaderSector → HeaderCondition
  | .blank => .blank
  | .spoiled => .unreadable
  | .written w =>
    if w.readsErased then .blank
    else if w.wellFormed then (if w.commit = Config.commitWord then .committed else .uncommitted)
    else .unreadable

/-- The check value matches the header body and the image words as read (R146). -/
def HeaderWords.matchesImage (w : HeaderWords) (image : List Word) : Bool :=
  match w.check with
  | none => false
  | some c =>
    c.flip = 0 && c.label = w.label && c.generation = w.generation && c.length = w.length &&
      c.definedSteps = w.definedSteps && c.image = image

/-- One header sector replaced. -/
def setHeader (slot : Fin 6) (h : HeaderSector) (s : State) : State :=
  { s with store := { s.store with array := { s.store.array with headers := s.store.array.headers.set slot h } } }

/-- The words of one image sector replaced. -/
def setImageSector (slot : Fin 6) (k : Nat) (ws : List Word) (s : State) : State :=
  { s with store := { s.store with array :=
      { s.store.array with images := s.store.array.images.program (imageBase slot k) ws } } }

/-- One start-up sector replaced. -/
def setStartupSector (copy : Fin 2) (sector : StartupSector) (s : State) : State :=
  { s with store := { s.store with array := { s.store.array with startups := s.store.array.startups.set copy sector } } }

/-- A free value has been taken (log 8). -/
def takeFree (s : State) : State := { s with freeCount := s.freeCount + 1 }

/-- The words of a step area: the step's image and unused words up to 28, left erased (R145, log 9). -/
def stepArea (e : Option StepRecord) : List Word :=
  stepImage e ++ List.replicate (28 - (stepImage e).length) Config.erased

/-- The 4096 words of a bank's image (R145). -/
def imageWords (b : Bank) : List Word :=
  b.steps.toList.flatMap stepArea ++ (b.order.map encodeOrder ++ List.replicate (512 - b.order.length) 0)

/-- The words of image sector `k`, 1 to 8, of a bank (R145). -/
def imageSector (b : Bank) (k : Nat) : List Word := ((imageWords b).drop (512 * (k - 1))).take 512

/-! ### The directory and the end of an operation -/

/-- One directory entry replaced. -/
def setDirectory (slot : Fin 6) (e : DirectoryEntry) (s : State) : State :=
  { s with store := { s.store with directory := s.store.directory.set slot e } }

/-- An EMPTY or a DAMAGED entry, with label and generation 0 (R147). -/
def plainEntry (state : SlotState) : DirectoryEntry := { state := state, label := 0, generation := 0 }

/-- The operation in flight replaced. -/
def setJob (j : StoreJob) (s : State) : State := { s with store := { s.store with job := j } }

/-- The end of an operation with its outcome (R151); STORE_DONE is not set when SOFT_RESET ended it (R165). -/
def endOperation (o : StoreOutcome) (s : State) : State :=
  let t := { s with store := { s.store with job := .idle, abortPending := false, quiet := false, outcome := o } }
  if s.store.quiet then t else raise storeDoneFlag t

/-- The end of an operation that leaves its slot EMPTY or DAMAGED (R154, R157, R160). -/
def endWithSlot (slot : Fin 6) (state : SlotState) (o : StoreOutcome) (s : State) : State :=
  endOperation o (setDirectory slot (plainEntry state) s)

/-- An operation started (R151). -/
def startOperation (op : StoreOperation) (slot : BitVec 3) (j : StoreJob) (s : State) : State :=
  { s with store := { s.store with operation := op, slot := slot, job := j, abortPending := false, quiet := false } }

/-! ### The commands -/

/-- The largest generation in the directory (R148). -/
def largestGeneration (s : State) : Nat :=
  s.store.directory.toList.foldl (fun m e => max m e.generation.toNat) 0

/-- The generation of the next SAVE (R148). -/
def nextGeneration (s : State) : BitVec 32 := BitVec.ofNat 32 (min 4294967295 (largestGeneration s + 1))

/-- The slot that ARG0 names. -/
def slotArg (s : State) : Fin 6 := Fin.ofNat 6 (arg 0 s)

/-- The bank that ARG1 of SAVE names (R153). -/
def saveSource (s : State) : BankRole :=
  match arg 1 s with
  | 0 => .active
  | _ => .staging

/-- What an accepted SAVE starts (R153). -/
def startSave (s : State) : State :=
  let g := nextGeneration s
  let label := s.cmd.arg[2]
  startOperation .save (BitVec.ofNat 3 (arg 0 s))
    (.save (slotArg s) (saveSource s) (s.tables.ofRole (saveSource s)) label g (.erasing 0 0))
    (setDirectory (slotArg s) { state := .writing, label := label, generation := g } s)

/-- SAVE (0x30) (R153). -/
def takeSave (s : State) : State :=
  takeCommand 0x30 (arg 0 s ≤ 5 && arg 1 s ≤ 1)
    (firstRefusal [(storeBusy s, .storeBusy), (s.tables.commitPending, .commitPending),
      (saveSource s = .staging && s.tables.incomplete, .stagingIncomplete),
      (saveSource s = .staging && loadSession s, .portOpen)]) startSave s

/-- The start of the reading of a slot (R155, R162). -/
def freshLoad (slot : Fin 6) : LoadProgress :=
  { slot := slot, sectorsRead := 0, header := .blank, words := [], mismatch := false, definedAreas := 0 }

/-- What an accepted LOAD starts (R155): a read session on the staging bank ended first, then INCOMPLETE. -/
def startLoad (s : State) : State :=
  let t := endStagingRead s
  startOperation .load (BitVec.ofNat 3 (arg 0 s)) (.load (freshLoad (slotArg s)))
    { t with tables := { t.tables with incomplete := true } }

/-- LOAD (0x31) (R155). -/
def takeLoad (s : State) : State :=
  takeCommand 0x31 (arg 0 s ≤ 5)
    (firstRefusal [(storeBusy s, .storeBusy), ((s.store.directory[slotArg s]).state = .empty, .slotEmpty),
      ((s.store.directory[slotArg s]).state = .damaged, .slotDamaged), (s.tables.commitPending, .commitPending),
      (loadSession s, .portOpen)]) startLoad s

/-- What an accepted ERASE starts (R157). -/
def startErase (s : State) : State :=
  startOperation .erase (BitVec.ofNat 3 (arg 0 s)) (.erase (slotArg s) 0 0)
    (setDirectory (slotArg s) (plainEntry .writing) s)

/-- ERASE (0x32) (R157). -/
def takeErase (s : State) : State :=
  takeCommand 0x32 (arg 0 s ≤ 5) (firstRefusal [(storeBusy s, .storeBusy)]) startErase s

/-- The boot slot that ARG0 of SET_STARTUP names, 7 for NONE (R158). -/
def bootSlotArg (s : State) : Option (Fin 6) := if arg 0 s = 7 then none else some (slotArg s)

/-- The autorun mode of a code (10.4). -/
def autorunOf : Nat → Autorun
  | 0 => .off
  | 1 => .onePass
  | _ => .continuous

/-- The sector that a SET_STARTUP writes: the one that does not hold the current record, and sector 54 when neither
does (R158). -/
def startupTarget (s : State) : Fin 2 :=
  match s.store.currentCopy with
  | some copy => if copy = 0 then 1 else 0
  | none => 0

/-- What an accepted SET_STARTUP starts (R158). -/
def startSetStartup (s : State) : State :=
  startOperation .setStartup (BitVec.ofNat 3 (arg 0 s))
    (.setStartup (bootSlotArg s) (autorunOf (arg 1 s)) (startupTarget s) (.erasing 0)) s

/-- SET_STARTUP (0x33) (R158). -/
def takeSetStartup (s : State) : State :=
  takeCommand 0x33 ((arg 0 s ≤ 5 || arg 0 s = 7) && arg 1 s ≤ 2) (firstRefusal [(storeBusy s, .storeBusy)])
    startSetStartup s

/-- ABORT_STORE (0x34) (R159). -/
def takeAbortStore (s : State) : State :=
  takeCommand 0x34 true (firstRefusal [(!storeBusy s, .wrongState)])
    (fun t => { t with store := { t.store with abortPending := true } }) s

/-! ### Erase attempts -/

/-- What a header sector holds after an erase attempt that failed its verify: something that does not read blank, its
old contents or neither (R146, R152, log 8). -/
def unerasedHeader (kept : Bool) : HeaderSector → HeaderSector
  | .blank => .spoiled
  | .spoiled => .spoiled
  | .written w => if kept && !w.readsErased then .written w else .spoiled

/-- An erase attempt on a slot's sector (0 the header) with its verify (R152). -/
def eraseSector (slot : Fin 6) (sector : Nat) (verified : Bool) (s : State) : State :=
  if verified then (if sector = 0 then setHeader slot .blank s else setImageSector slot sector erasedSector s)
  else if sector = 0 then
    takeFree (setHeader slot (unerasedHeader (Config.freeKept s.freeCount) s.store.array.headers[slot]) s)
  else takeFree (setImageSector slot sector (freeSector s.freeCount) s)

/-- A failed attempt is the last when it is the third or an abort is pending (R152, R159). -/
def noFurtherAttempt (failed : Nat) (s : State) : Bool := s.store.abortPending || decide (2 ≤ failed)

/-- The completion of an erase attempt (R152, R154, R157, R158, R159, R160). -/
def eraseAttempt (verified : Bool) (s : State) : State :=
  match s.store.job with
  | .save slot source bank label generation (.erasing sector failed) =>
    let t := eraseSector slot sector verified s
    if verified then
      if s.store.abortPending then endWithSlot slot .empty .aborted t
      else
        setJob (.save slot source bank label generation
          (if sector < 8 then .erasing (sector + 1) 0 else .programming 0)) t
    else if noFurtherAttempt failed s then endWithSlot slot .damaged .eraseFailed t
    else setJob (.save slot source bank label generation (.erasing sector (failed + 1))) t
  | .erase slot sector failed =>
    let t := eraseSector slot sector verified s
    if verified then
      if 8 ≤ sector then endWithSlot slot .empty .ok t
      else if s.store.abortPending then endWithSlot slot .empty .aborted t
      else setJob (.erase slot (sector + 1) 0) t
    else if noFurtherAttempt failed s then endWithSlot slot .damaged .eraseFailed t
    else setJob (.erase slot sector (failed + 1)) t
  | .setStartup bootSlot autorun target (.erasing failed) =>
    if verified then
      let t := setStartupSector target .blank s
      if s.store.abortPending then endOperation .aborted t
      else setJob (.setStartup bootSlot autorun target .programming) t
    else
      let t := setStartupSector target .spoiled s
      if noFurtherAttempt failed s then endOperation .eraseFailed t
      else setJob (.setStartup bootSlot autorun target (.erasing (failed + 1))) t
  | _ => s

/-! ### Program steps -/

/-- The header body that a SAVE programs (R145, R154). -/
def headerBody (b : Bank) (label : Word) (generation : BitVec 32) : HeaderWords :=
  { marker := Config.bodyMarker, label := label, generation := generation, length := word b.order.length,
    definedSteps := word b.definedSteps, check := none, commit := Config.erased }

/-- The check value that a SAVE programs, computed from the header body and the image (R146). -/
def slotCheck (b : Bank) (label : Word) (generation : BitVec 32) : SlotCheck :=
  { label := label, generation := generation, length := word b.order.length, definedSteps := word b.definedSteps,
    image := imageWords b, flip := 0 }

/-- The header sector with the check value and the commit word programmed (R154). -/
def HeaderSector.commitWith (c : SlotCheck) : HeaderSector → HeaderSector
  | .written w => .written { w with check := some c, commit := Config.commitWord }
  | .blank => .blank
  | .spoiled => .spoiled

/-- A part of a SAVE programmed (R154): 0 the header body, 1 to 8 the image sectors, 9 the check value and the commit
word. -/
def programPart (slot : Fin 6) (b : Bank) (label : Word) (generation : BitVec 32) (part : Nat) (s : State) : State :=
  if part = 0 then setHeader slot (.written (headerBody b label generation)) s
  else if part < 9 then setImageSector slot part (imageSector b part) s
  else setHeader slot (s.store.array.headers[slot].commitWith (slotCheck b label generation)) s

/-- What a program of a SAVE's part that failed its verify leaves (R152, R154, log 8): of the header body, at most a header
that does not read committed, and of the commit word an uncommitted header. -/
def leftByProgram (slot : Fin 6) (part : Nat) (s : State) : State :=
  if part = 0 then takeFree (if Config.freeKept s.freeCount then s else setHeader slot .spoiled s)
  else if part < 9 then takeFree (setImageSector slot part (freeSector s.freeCount) s)
  else s

/-- The code of a boot slot in BOOT_INFO, 7 for NONE (10.3); the model takes it in a start-up sector too (log 25). -/
def bootSlotCode : Option (Fin 6) → Nat
  | some slot => slot.val
  | none => 7

/-- The code of an autorun mode in BOOT_INFO (10.3); the model takes it in a start-up sector too (log 25). -/
def autorunCode : Autorun → Nat
  | .off => 0
  | .onePass => 1
  | .continuous => 2

/-- The sector that a start-up record is programmed as, with its check value (R149). DESIGN CHOICE (log 25): the boot
slot and the autorun mode are programmed as BOOT_INFO's codes. -/
def startupSector (r : StartupRecord) : StartupSector :=
  .written
    { generation := r.generation, bootSlot := word (bootSlotCode r.bootSlot), autorun := word (autorunCode r.autorun)
      check := { generation := r.generation, bootSlot := word (bootSlotCode r.bootSlot),
                 autorun := word (autorunCode r.autorun), flip := 0 } }

/-- The start-up record that a SET_STARTUP writes (R158). -/
def newStartup (bootSlot : Option (Fin 6)) (autorun : Autorun) (s : State) : StartupRecord :=
  { generation := s.store.current.generation + 1, bootSlot := bootSlot, autorun := autorun }

/-- The completion of a program step (R152, R154, R158, R159, R160). -/
def programStep (verified : Bool) (s : State) : State :=
  match s.store.job with
  | .save slot source bank label generation (.programming part) =>
    if verified then
      let t := programPart slot (s.tables.bank bank) label generation part s
      if 9 ≤ part then
        endOperation .ok (setDirectory slot { state := .valid, label := label, generation := generation } t)
      else if s.store.abortPending then endWithSlot slot .damaged .aborted t
      else setJob (.save slot source bank label generation (.programming (part + 1))) t
    else
      endWithSlot slot .damaged .programFailed (leftByProgram slot part s)
  | .setStartup bootSlot autorun target .programming =>
    if verified then
      let t := setStartupSector target (startupSector (newStartup bootSlot autorun s)) s
      endOperation .ok
        { t with store := { t.store with current := newStartup bootSlot autorun s, currentCopy := some target } }
    else endOperation .programFailed (setStartupSector target .spoiled s)
  | _ => s

/-! ### The reading of a slot into the staging bank -/

/-- The words of step area `i` (R145). -/
def areaWords (image : List Word) (i : Nat) : List Word := (image.drop (28 * i)).take 28

/-- The Step Table entry that a step area gives (R156). -/
def areaEntry (area : List Word) : Option StepRecord :=
  match readArea area with
  | .defined r => some r
  | .undefined => none
  | .illegal => none

/-- The step areas whose last word arrives when the words read grow from `old` to `new` (R156). -/
def newAreas (old new : Nat) : List Nat := List.range' (old / 28) (new / 28 - old / 28)

/-- The Step Table with the areas written at their indices (R156). -/
def writeAreas (image : List Word) (steps : Vector (Option StepRecord) 128) (areas : List Nat) :
    Vector (Option StepRecord) 128 :=
  areas.foldl (fun v i => if h : i < 128 then v.set i (areaEntry (areaWords image i)) else v) steps

/-- The L of a header as read; what is no programmed header reads above 512 (R156). -/
def headerLength : HeaderSector → Nat
  | .written w => w.length.toNat
  | .blank => 65535
  | .spoiled => 65535

/-- The words of the slot's next image sector. -/
def nextSector (p : LoadProgress) (s : State) : List Word :=
  s.store.array.images.slice (imageBase p.slot p.sectorsRead) 512

/-- The step areas that the next image sector completes: none in the eighth sector, which holds the order words. -/
def arrivingAreas (p : LoadProgress) : List Nat :=
  if p.sectorsRead ≤ 7 then newAreas p.words.length (p.words.length + 512) else []

/-- The progress of the reading after one more sector (R156). -/
def LoadProgress.advance (p : LoadProgress) (s : State) : LoadProgress :=
  if p.sectorsRead = 0 then { p with sectorsRead := 1, header := s.store.array.headers[p.slot] }
  else
    let words := p.words ++ nextSector p s
    let readings := (arrivingAreas p).map fun i => readArea (areaWords words i)
    { p with sectorsRead := p.sectorsRead + 1, words := words
             mismatch := p.mismatch || readings.contains .illegal
             definedAreas := p.definedAreas + readings.countP fun r =>
               match r with
               | .defined _ => true
               | _ => false }

/-- The staging bank after one more sector (R156): the areas completed by it, and after the eighth the Order List. -/
def loadedBank (p : LoadProgress) (s : State) (b : Bank) : Bank :=
  if p.sectorsRead = 0 then b
  else if p.sectorsRead ≤ 7 then
    { b with steps := writeAreas (p.words ++ nextSector p s) b.steps (arrivingAreas p) }
  else if headerLength p.header ≤ 512 then
    { b with order := ((nextSector p s).take (headerLength p.header)).map decodeOrder }
  else b

/-- Whether a finished reading matched (R156): the header committed, its check value matched, no area marked, and as many
defined areas as it declares. The commit word is examined too (R147, log 10). -/
def LoadProgress.matched (p : LoadProgress) : Bool :=
  match p.header with
  | .written w =>
    p.header.condition = .committed && w.matchesImage p.words && !p.mismatch && p.definedAreas = w.definedSteps.toNat
  | .blank => false
  | .spoiled => false

/-- The effect of one more sector on the staging bank. -/
def loadSector (p : LoadProgress) (s : State) : State := setStaging (loadedBank p s (stagingBank s)) s

/-- INCOMPLETE cleared by a reading that matched (R11). -/
def clearIncomplete (s : State) : State := { s with tables := { s.tables with incomplete := false } }

/-- The completion of a sector read of a LOAD (R156, R159, R160). -/
def loadStep (p : LoadProgress) (s : State) : State :=
  let p' := p.advance s
  let t := loadSector p s
  if 8 ≤ p.sectorsRead then
    if p'.matched then endOperation .ok (clearIncomplete t)
    else endWithSlot p.slot .damaged .checkFailed t
  else if s.store.abortPending then endOperation .aborted t
  else setJob (.load p') t

/-! ### Changes without an operation -/

/-- Bits of the low or of the high word of a 32-bit value changed. -/
def flipLow (v : BitVec 32) (flip : Word) : BitVec 32 := v ^^^ flip.setWidth 32
def flipHigh (v : BitVec 32) (flip : Word) : BitVec 32 := v ^^^ (flip.setWidth 32 <<< 16)

/-- A word of a programmed header changed (R146). The check value and the commit word can change once they have been
programmed. -/
def HeaderWords.change (field : HeaderField) (flip : Word) (w : HeaderWords) : HeaderWords :=
  match field with
  | .bodyMarker => { w with marker := w.marker ^^^ flip }
  | .label => { w with label := w.label ^^^ flip }
  | .generationLow => { w with generation := flipLow w.generation flip }
  | .generationHigh => { w with generation := flipHigh w.generation flip }
  | .length => { w with length := w.length ^^^ flip }
  | .definedSteps => { w with definedSteps := w.definedSteps ^^^ flip }
  | .checkLow => { w with check := w.check.map fun c => { c with flip := flipLow c.flip flip } }
  | .checkHigh => { w with check := w.check.map fun c => { c with flip := flipHigh c.flip flip } }
  | .commitWord => if w.check.isSome then { w with commit := w.commit ^^^ flip } else w

/-- A word of a programmed start-up copy changed. -/
def StartupWords.change (field : StartupField) (flip : Word) (w : StartupWords) : StartupWords :=
  match field with
  | .generationLow => { w with generation := flipLow w.generation flip }
  | .generationHigh => { w with generation := flipHigh w.generation flip }
  | .bootSlot => { w with bootSlot := w.bootSlot ^^^ flip }
  | .autorun => { w with autorun := w.autorun ^^^ flip }
  | .checkLow => { w with check := { w.check with flip := flipLow w.check.flip flip } }
  | .checkHigh => { w with check := { w.check with flip := flipHigh w.check.flip flip } }

/-- A stored word changes after it was programmed, in whatever state the part is (R146). -/
def changeStoredWord (place : StoredWord) (flip : Word) (s : State) : State :=
  match place with
  | .header slot field =>
    match s.store.array.headers[slot] with
    | .written w => setHeader slot (.written (w.change field flip)) s
    | .blank => s
    | .spoiled => s
  | .image slot index =>
    let a := 4096 * slot.val + index.val
    { s with store := { s.store with array :=
        { s.store.array with
            images := s.store.array.images.program a [s.store.array.images.read a ^^^ flip] } } }
  | .startup copy field =>
    match s.store.array.startups[copy] with
    | .written w => setStartupSector copy (.written (w.change field flip)) s
    | .blank => s
    | .spoiled => s

/-! ### What hardware reset cuts off -/

/-- An erase attempt of a slot's sector cut off (R164): the header as before, part-erased, or, with only the verify cut off,
blank (DESIGN CHOICE, log 8). -/
def cutOffErase (slot : Fin 6) (sector : Nat) (s : State) : State :=
  if sector = 0 then
    takeFree (if Config.freeWhole s.freeCount then setHeader slot .blank s
      else if Config.freeKept s.freeCount then s else setHeader slot .spoiled s)
  else takeFree (setImageSector slot sector (freeSector s.freeCount) s)

/-- A program of a SAVE's part cut off (R164): a header part-programmed, or an uncommitted one when its commit word is not
complete. DESIGN CHOICE (log 8): the spec leaves open what a reset leaves between the completion of the words and the end
of their verify, and the model leaves them programmed or not, a free value. -/
def cutOffProgram (slot : Fin 6) (b : Bank) (label : Word) (generation : BitVec 32) (part : Nat) (s : State) : State :=
  if Config.freeWhole s.freeCount then takeFree (programPart slot b label generation part s)
  else if part = 0 then takeFree (setHeader slot .spoiled s)
  else if part < 9 then takeFree (setImageSector slot part (freeSector s.freeCount) s)
  else takeFree s

/-- A sector step of a SET_STARTUP cut off (R164): the target's copy is invalid or absent. DESIGN CHOICE (log 8): a new copy
that is complete but for its verify is there or not, a free value. -/
def cutOffStartup (bootSlot : Option (Fin 6)) (autorun : Autorun) (target : Fin 2) (s : State) : StartupProgress → State
  | .erasing _ => takeFree (setStartupSector target (if Config.freeWhole s.freeCount then .blank else .spoiled) s)
  | .programming =>
    takeFree (setStartupSector target
      (if Config.freeWhole s.freeCount then startupSector (newStartup bootSlot autorun s) else .spoiled) s)

/-- The array as a hardware reset leaves it when it cuts off a sector step (R164, log 8). -/
def cutOffStep (s : State) : State :=
  match s.store.job with
  | .save slot _ _ _ _ (.erasing sector _) => cutOffErase slot sector s
  | .save slot _ bank label generation (.programming part) =>
    cutOffProgram slot (s.tables.bank bank) label generation part s
  | .erase slot sector _ => cutOffErase slot sector s
  | .setStartup bootSlot autorun target progress => cutOffStartup bootSlot autorun target s progress
  | .load _ => s
  | .idle => s

/-- The row SAVE. -/
def execSave (s : State) : Host.Outcome State Fault Refusal := .next (takeSave s)

/-- The row LOAD. -/
def execLoad (s : State) : Host.Outcome State Fault Refusal := .next (takeLoad s)

/-- The row ERASE. -/
def execErase (s : State) : Host.Outcome State Fault Refusal := .next (takeErase s)

/-- The row SET_STARTUP. -/
def execSetStartup (s : State) : Host.Outcome State Fault Refusal := .next (takeSetStartup s)

/-- The row ABORT_STORE. -/
def execAbortStore (s : State) : Host.Outcome State Fault Refusal := .next (takeAbortStore s)

/-- The row ERASE_ATTEMPT_DONE. -/
def execEraseAttemptDone (verified : Bool) (s : State) : Host.Outcome State Fault Refusal :=
  .next (outOfReset (eraseAttempt verified) s)

/-- The row PROGRAM_STEP_DONE. -/
def execProgramStepDone (verified : Bool) (s : State) : Host.Outcome State Fault Refusal :=
  .next (outOfReset (programStep verified) s)

/-- The row STORED_WORD_CHANGE. -/
def execStoredWordChange (place : StoredWord) (flip : Word) (s : State) : Host.Outcome State Fault Refusal :=
  .next (changeStoredWord place flip s)

end Sys2Proof.Machine
end

