-- ==== Sys2Proof/Machine/Boot.lean ====
section
/-! DEFINITION. The start-up scan and the boot (R149, R161, R162), and SECTOR_READ_DONE. -/
namespace Sys2Proof.Machine

/-- The boot's progress replaced. -/
def setBoot (p : BootPhase) (s : State) : State := { s with store := { s.store with boot := p } }

/-! ### The start-up record -/

/-- The boot slot that a word of a start-up sector reads as, if any (R149). DESIGN CHOICE (log 25): the words are 0 to 5,
and 7 for NONE, BOOT_INFO's codes. -/
def readBootSlot (w : Word) : Option (Option (Fin 6)) :=
  if w = 7 then some none else if h : w.toNat < 6 then some (some ⟨w.toNat, h⟩) else none

/-- The autorun mode that a word of a start-up sector reads as, if any (R149). DESIGN CHOICE (log 25): the words are
BOOT_INFO's codes. -/
def readAutorun (w : Word) : Option Autorun :=
  match w.toNat with
  | 0 => some .off
  | 1 => some .onePass
  | 2 => some .continuous
  | _ => none

/-- The check value of a start-up copy matches (R149). -/
def StartupWords.checks (w : StartupWords) : Bool :=
  w.check.flip = 0 && w.check.generation = w.generation && w.check.bootSlot = w.bootSlot && w.check.autorun = w.autorun

/-- The record of a start-up sector when its copy is valid (R149). -/
def StartupSector.judge : StartupSector → Option StartupRecord
  | .written w =>
    match readBootSlot w.bootSlot, readAutorun w.autorun with
    | some slot, some autorun =>
      if w.checks then some { generation := w.generation, bootSlot := slot, autorun := autorun } else none
    | _, _ => none
  | .blank => none
  | .spoiled => none

/-- Whether the copy in sector 55 is the newer of two valid copies (R149): its generation is the other's plus 1 modulo
2³², or neither is the other's plus 1 and it is the larger. -/
def newerIn55 (g54 g55 : BitVec 32) : Bool :=
  if g55 = g54 + 1 then true else if g54 = g55 + 1 then false else decide (g54.toNat < g55.toNat)

/-- The current start-up record and the sector that holds it (R149). -/
def chooseStartup : Option StartupRecord → Option StartupRecord → StartupRecord × Option (Fin 2)
  | none, none => (StartupRecord.absent, none)
  | some r, none => (r, some 0)
  | none, some r => (r, some 1)
  | some r54, some r55 => if newerIn55 r54.generation r55.generation then (r55, some 1) else (r54, some 0)

/-! ### The boot -/

/-- The end of the boot: its outcome in BOOT_INFO, BOOT_DONE set, BOOTING over (R162). -/
def endBoot (o : BootOutcome) (s : State) : State :=
  raise bootDoneFlag { s with store := { s.store with boot := .done, bootOutcome := o } }

/-- The boot's autorun, its last act (R162). -/
def autorun (s : State) : State :=
  match s.store.current.autorun with
  | .off => s
  | .onePass => startRun .onePass 1 true s
  | .continuous => startRun .continuous 1 true s

/-- The boot after its load has matched: validation, the commit, and the autorun (R162, steps 4 to 6). -/
def bootCommit (s : State) : State :=
  match (stagingBank s).validate with
  | some _ => endBoot .invalid s
  | none => autorun (endBoot .loaded (swapBanks s))

/-- The completion of a sector read of the boot's load (R156, R162). -/
def bootLoadStep (p : LoadProgress) (s : State) : State :=
  let p' := p.advance s
  let t := loadSector p s
  if 8 ≤ p.sectorsRead then
    if p'.matched then bootCommit (clearIncomplete t)
    else endBoot .checkFailed (setDirectory p.slot (plainEntry .damaged) t)
  else setBoot (.load p') t

/-- The boot after the scan, on the current start-up record (R162, steps 1 to 3). -/
def startBoot (s : State) : State :=
  match s.store.current.bootSlot with
  | none => endBoot .notSet s
  | some slot =>
    match (s.store.directory[slot]).state with
    | .empty => endBoot .slotEmpty s
    | .damaged => endBoot .slotDamaged s
    | .valid | .writing =>
      setBoot (.load (freshLoad slot)) { s with tables := { s.tables with incomplete := true } }

/-! ### The scan -/

/-- The scan after a slot has been judged (R161). -/
def nextInScan (slot : Fin 6) (s : State) : State :=
  if h : slot.val + 1 < 6 then setBoot (.scanHeader ⟨slot.val + 1, h⟩) s else setBoot .scanStartup54 s

/-- A slot judged by the scan (R161). -/
def judgeSlot (slot : Fin 6) (e : DirectoryEntry) (s : State) : State := nextInScan slot (setDirectory slot e s)

/-- The scan's read of a header sector (R161). -/
def scanHeader (slot : Fin 6) (s : State) : State :=
  match s.store.array.headers[slot] with
  | .blank => judgeSlot slot (plainEntry .empty) s
  | .spoiled => judgeSlot slot (plainEntry .damaged) s
  | .written w =>
    match (HeaderSector.written w).condition with
    | .blank => judgeSlot slot (plainEntry .empty) s
    | .committed => setBoot (.scanImage slot w 0 []) s
    | .uncommitted | .unreadable => judgeSlot slot (plainEntry .damaged) s

/-- The scan's read of an image sector of a slot with a committed header (R161). -/
def scanImage (slot : Fin 6) (w : HeaderWords) (sectorsRead : Nat) (words : List Word) (s : State) : State :=
  let words' := words ++ s.store.array.images.slice (imageBase slot (sectorsRead + 1)) 512
  if sectorsRead + 1 < 8 then setBoot (.scanImage slot w (sectorsRead + 1) words') s
  else if w.matchesImage words' then
    judgeSlot slot { state := .valid, label := w.label, generation := w.generation } s
  else judgeSlot slot (plainEntry .damaged) s

/-- The scan's read of sector 55, after which the current record is chosen and the boot goes on (R149, R162). -/
def scanStartup55 (first : Option StartupRecord) (s : State) : State :=
  let choice := chooseStartup first (s.store.array.startups[1]).judge
  startBoot { s with store := { s.store with current := choice.1, currentCopy := choice.2 } }

/-- The completion of a sector read, for the scan, the boot's load or a LOAD (R156, R161, R162). -/
def sectorRead (s : State) : State :=
  match s.store.boot with
  | .scanHeader slot => scanHeader slot s
  | .scanImage slot w n words => scanImage slot w n words s
  | .scanStartup54 => setBoot (.scanStartup55 (s.store.array.startups[0]).judge) s
  | .scanStartup55 first => scanStartup55 first s
  | .load p => bootLoadStep p s
  | .done =>
    match s.store.job with
    | .load p => loadStep p s
    | _ => s

/-- The row SECTOR_READ_DONE. -/
def execSectorReadDone (s : State) : Host.Outcome State Fault Refusal := .next (outOfReset sectorRead s)

end Sys2Proof.Machine
end

