-- ==== Sys2Proof/Machine/Events.lean ====
section
/-! DEFINITION. TRIGGER_EDGE, HOLDOFF_WINDOW_CLOSE, MILLISECOND_EVENT, HOLD_TIMER_EXPIRY, DUE_INSTANT and GAP_END (R35, R39,
R44, R57 to R61, R84, R93). A timed event has its effect when its time has come (log 3). -/
namespace Sys2Proof.Machine

/-! ### Trigger inputs -/

/-- The edges that an edge select passes to the holdoff test; `level` is the level after the edge (R58). -/
def EdgeSelect.passes : EdgeSelect → Bool → Bool
  | .off, _ => false
  | .rising, level => level
  | .falling, level => !level
  | .both, _ => true

/-- One trigger input replaced. -/
def setInput (i : Fin 4) (x : TriggerInput) (s : State) : State :=
  { s with triggers := { s.triggers with inputs := s.triggers.inputs.set i x } }

/-- The holdoff window is open: its closing time has not come (R59). -/
def TriggerInput.windowOpen (x : TriggerInput) (now : Time) : Bool :=
  match x.window with
  | some t => !hasCome now t
  | none => false

/-- The window that an edge passing the holdoff leaves: open for the holdoff, closed for a holdoff of 0 (R59). -/
def TriggerInput.newWindow (x : TriggerInput) (now : Time) : Option Time :=
  if x.holdoff = 0 then none else some (now + x.holdoff.setWidth 32)

/-- The source number of a trigger pin (R3). -/
def pinSource (i : Fin 4) : Source := ⟨i.val, by omega⟩

/-- A change of a trigger pin's level (R58, R59): an edge that the select passes is suppressed by an open window, or
opens the window and becomes an arrival. While RSTn is asserted the pin is not sensed (R185). -/
def senseEdge (i : Fin 4) (level : Bool) (s : State) : State :=
  let x := s.triggers.inputs[i]
  let t := setInput i { x with level := level } s
  if s.inReset || level == x.level || !x.select.passes level then t
  else if x.windowOpen s.timebase.tsc then countUp (suppressedCounter i) 1 t
  else
    arrive (pinSource i) (setInput i { x with level := level, window := x.newWindow s.timebase.tsc } s)

/-- A holdoff window reaches its closing time (R59). -/
def closeWindow (i : Fin 4) (s : State) : State :=
  match (s.triggers.inputs[i]).window with
  | some t =>
    if hasCome s.timebase.tsc t then setInput i { s.triggers.inputs[i] with window := none } s else s
  | none => s

/-! ### The millisecond event -/

/-- The credit of a channel after a refill (R84). -/
def refilled (ch : Channel) : Word := word (min ch.ceiling.toNat (ch.credit.toNat + ch.rate.toNat))

/-- The refill of every channel (R84). -/
def refill (s : State) : State :=
  { s with channels := { s.channels with channel := Vector.ofFn fun i =>
      { s.channels.channel[i] with credit := refilled s.channels.channel[i] } } }

/-- The hold timer counts a millisecond event while the Sequencer is still HELD (R44). -/
def countHold (s : State) : State :=
  if s.seq.state = .held then { s with seq := { s.seq with holdTimer := s.seq.holdTimer.map (· - 1) } } else s

/-- The millisecond event (R57): the refill, then the re-check of a step held for credit, then the hold timer. It is taken
when the divider has produced it. -/
def millisecond (s : State) : State :=
  if s.timebase.msDue then
    countHold (recheck (refill { s with timebase := { s.timebase with msDue := false } }))
  else s

/-- The hold timer's T-th millisecond event has come, whether it has been taken or not (R44, R45). -/
def holdTimerOver (s : State) : Bool :=
  s.seq.state = .held && (s.seq.holdTimer = some 0 || (s.seq.holdTimer = some 1 && s.timebase.msDue))

/-- The expiry of the hold timer (R44). -/
def expireHold (s : State) : State := if holdTimerOver s then stopSequencer .holdTimeout s else s

/-! ### The step in progress -/

/-- The due instant comes in DELAYING (R35); with a manual pulse ACTIVE the step stays there (R36). -/
def reachDue (s : State) : State :=
  match s.seq.context with
  | some c =>
    if s.seq.state = .delaying ∧ dueHasCome s c = true then tryExposure (setContext { c with dueReached := true } s)
    else s
  | none => s

/-- The gap of a settling step has run (R39). -/
def gapOver (s : State) (c : StepContext) : Bool :=
  s.seq.state = .settling &&
    match c.gapStart with
    | some g => c.record.gap.toNat ≤ elapsed s.timebase.tsc g
    | none => false

/-- The gap runs out and the step completes (R39, R40). -/
def endGap (s : State) : State :=
  match s.seq.context with
  | some c => if gapOver s c then completeStep c s else s
  | none => s

/-- The row TRIGGER_EDGE. -/
def execTriggerEdge (i : Fin 4) (level : Bool) (s : State) : Host.Outcome State Fault Refusal := .next (senseEdge i level s)

/-- The row HOLDOFF_WINDOW_CLOSE. -/
def execHoldoffWindowClose (i : Fin 4) (s : State) : Host.Outcome State Fault Refusal := .next (outOfReset (closeWindow i) s)

/-- The row MILLISECOND_EVENT. -/
def execMillisecondEvent (s : State) : Host.Outcome State Fault Refusal := .next (outOfReset millisecond s)

/-- The row HOLD_TIMER_EXPIRY. -/
def execHoldTimerExpiry (s : State) : Host.Outcome State Fault Refusal := .next (outOfReset expireHold s)

/-- The row DUE_INSTANT. -/
def execDueInstant (s : State) : Host.Outcome State Fault Refusal := .next (outOfReset reachDue s)

/-- The row GAP_END. -/
def execGapEnd (s : State) : Host.Outcome State Fault Refusal := .next (outOfReset endGap s)

end Sys2Proof.Machine
end

