-- ==== Sys2Proof/Machine/Outputs.lean ====
section
/-! DEFINITION. Light channels and sync outputs: CH_ENABLE_WRITE, CH_CEILING_WRITE, UNLOCK_CHANNEL, FAULT_ASSERT,
FAULT_LINE_FALL, GATE_WIDTH_END, PULSE_SYNC, SYNC_CONFIG_WRITE, SYNC_START and SYNC_END (R78, R81, R85, R96 to R112). -/
namespace Sys2Proof.Machine

/-- Channels entered into the cut mask of a begun step (R82). -/
def noteCut (m : ChannelMask) (s : State) : State :=
  match s.seq.context with
  | some c => if c.begun then setContext { c with cut := c.cut ||| m } s else s
  | none => s

/-! ### Channels -/

/-- The LIT channels whose bit a CH_ENABLE write clears (R78). -/
def enableCuts (w : Word) (s : State) : ChannelMask :=
  maskOf fun i => (s.channels.channel[i]).gate.isSome && !bit w i.val

/-- A write to CH_ENABLE (R78): all enable bits set from the mask; a LIT channel whose bit is cleared has its gate
cut. -/
def writeChEnable (w : Word) (s : State) : State :=
  let t := { s with channels :=
    { s.channels with channel := Vector.ofFn fun i =>
        { s.channels.channel[i] with
            enabled := bit w i.val
            gate := if bit w i.val then (s.channels.channel[i]).gate else none } } }
  afterGateClose (noteCut (enableCuts w s) t)

/-- A write to CH_CEILING (R85): 1 to 65535 is taken, and the credit is lowered to a lowered ceiling; 0 is ignored. -/
def writeChCeiling (w : Word) (s : State) : State :=
  if w = 0 then writeIgnored s
  else
    let ch := s.channels.channel[s.channels.select]
    setChannel s.channels.select
      { ch with ceiling := w, credit := if w.toNat < ch.credit.toNat then w else ch.credit } s

/-- The marks that a lock leaves in the context of a begun step: FAULT_SEEN, and the channel in the cut mask when its gate
was cut (R97). -/
def noteFault (cuts : ChannelMask) (s : State) : State :=
  match s.seq.context with
  | some c => if c.begun then setContext { c with cut := c.cut ||| cuts, faultSeen := true } s else s
  | none => s

/-- The set of one channel. -/
def oneChannel (n : Fin 8) : ChannelMask := maskOf fun i => i = n

/-- The locking of a channel that is not locked (R97). -/
def lockChannel (n : Fin 8) (s : State) : State :=
  let ch := s.channels.channel[n]
  let t := raise channelFaultFlag <| noteFault (if ch.gate.isSome then oneChannel n else 0) <|
    setChannel n { ch with locked := true, gate := none } s
  if s.policy.faultPolicy = .stop ∧ s.seq.state ≠ .stopped then stopSequencer .channelFault t else afterGateClose t

/-- The level of a fault line. -/
def setFaultLine (n : Fin 8) (level : Bool) (s : State) : State :=
  setChannel n { s.channels.channel[n] with faultLine := level } s

/-- An asserted level on FLTn (R96): while RSTn is asserted the line is not sensed (R185). -/
def assertFault (n : Fin 8) (s : State) : State :=
  let t := setFaultLine n true s
  if s.inReset || (s.channels.channel[n]).locked then t else lockChannel n t

/-- The channel that ARG0 of UNLOCK_CHANNEL names (R99). -/
def unlockTarget (s : State) : Fin 8 := Fin.ofNat 8 (arg 0 s)

/-- UNLOCK_CHANNEL (0x20) (R99). -/
def takeUnlockChannel (s : State) : State :=
  takeCommand 0x20 (arg 0 s ≤ 7)
    (firstRefusal [(!(s.channels.channel[unlockTarget s]).locked, .wrongState),
      ((s.channels.channel[unlockTarget s]).faultLine, .faultPresent)])
    (fun t => setChannel (unlockTarget s) { t.channels.channel[unlockTarget s] with locked := false } t) s

/-- The width of a LIT channel's gate has run out: its closing time has come (R81). -/
def gateWidthOver (n : Fin 8) (s : State) : Bool :=
  match (s.channels.channel[n]).gate with
  | some g => hasCome s.timebase.tsc g.closing
  | none => false

/-- The closing of a gate by its width, which is no cut (R81). -/
def closeGate (n : Fin 8) (s : State) : State :=
  if gateWidthOver n s then afterGateClose (setChannel n { s.channels.channel[n] with gate := none } s) else s

/-! ### Sync outputs -/

/-- The output that ARG0 of PULSE_SYNC names (R108). -/
def pulseTarget (s : State) : Fin 4 := Fin.ofNat 4 (arg 0 s)

/-- The manual pulse that an accepted PULSE_SYNC starts (R108). -/
def manualPulse (s : State) : Pulse := .active .manual (s.timebase.tsc + (s.cmd.arg[1]).setWidth 32)

/-- PULSE_SYNC (0x21) (R108). -/
def takePulseSync (s : State) : State :=
  takeCommand 0x21 (arg 0 s ≤ 3 && 1 ≤ arg 1 s && arg 1 s ≤ 16383)
    (firstRefusal [(s.seq.state != .stopped && s.seq.state != .paused, .wrongState),
      ((s.syncs[pulseTarget s]).pulse != .idle, .wrongState)])
    (fun t => setOutput (pulseTarget s) { t.syncs[pulseTarget s] with pulse := manualPulse s } t) s

/-- The polarity of output `i` in a word of SYNC_CONFIG (10.3). -/
def polarityBit (w : Word) (i : Fin 4) : Polarity := if bit w i.val then .activeLow else .activeHigh

/-- Whether a pulse is ACTIVE. -/
def Pulse.isActive : Pulse → Bool
  | .active _ _ => true
  | _ => false

/-- A SYNC_CONFIG write cuts the pulse of an ACTIVE output whose polarity it changes (R104, R111). -/
def polarityCuts (w : Word) (s : State) (i : Fin 4) : Bool :=
  (s.syncs[i]).pulse.isActive && decide (polarityBit w i ≠ (s.syncs[i]).polarity)

/-- Whether a SYNC_CONFIG write cuts a step pulse. -/
def cutsStepPulse (w : Word) (s : State) : Bool :=
  allFour.any fun i => polarityCuts w s i && (s.syncs[i]).pulse.isStep

/-- The settings written, and the pulses cut (R104). -/
def applySyncConfig (w : Word) (s : State) : State :=
  { s with syncs := Vector.ofFn fun i =>
      { polarity := polarityBit w i, enabled := bit w (4 + i.val)
        pulse := if polarityCuts w s i then .idle else (s.syncs[i]).pulse } }

/-- SYNC_CUT in the step's context (R111). -/
def noteSyncCut (s : State) : State :=
  match s.seq.context with
  | some c => setContext { c with syncCut := true } s
  | none => s

/-- A write to SYNC_CONFIG (R104, R111): a cut step pulse counts as ended now, and a cut manual pulse ends the wait of a
step for it (R36). -/
def writeSyncConfig (w : Word) (s : State) : State :=
  let t := applySyncConfig w s
  tryExposure (startGap (if cutsStepPulse w s then noteSyncEnd (noteSyncCut t) else t))

/-- The scheduled start of a SCHEDULED output (R106). -/
def startPulse (i : Fin 4) (s : State) : State :=
  match (s.syncs[i]).pulse with
  | .scheduled start finish =>
    if hasCome s.timebase.tsc start then setOutput i { s.syncs[i] with pulse := .active .stepPulse finish } s else s
  | _ => s

/-- The scheduled end of an ACTIVE output (R106): a step pulse's end is reported to the Sequencer, and the end of the last
manual pulse lets a waiting step reach its exposure instant (R36). -/
def endPulse (i : Fin 4) (s : State) : State :=
  match (s.syncs[i]).pulse with
  | .active kind finish =>
    if hasCome s.timebase.tsc finish then
      let t := setOutput i { s.syncs[i] with pulse := .idle } s
      match kind with
      | .stepPulse => startGap (noteSyncEnd t)
      | .manual => tryExposure t
    else s
  | _ => s

/-- The row CH_ENABLE_WRITE. -/
def execChEnableWrite (w : Word) (s : State) : Host.Outcome State Fault Refusal := .next (outOfReset (writeChEnable w) s)

/-- The row CH_CEILING_WRITE. -/
def execChCeilingWrite (w : Word) (s : State) : Host.Outcome State Fault Refusal := .next (outOfReset (writeChCeiling w) s)

/-- The row UNLOCK_CHANNEL. -/
def execUnlockChannel (s : State) : Host.Outcome State Fault Refusal := .next (takeUnlockChannel s)

/-- The row FAULT_ASSERT. -/
def execFaultAssert (n : Fin 8) (s : State) : Host.Outcome State Fault Refusal := .next (assertFault n s)

/-- The row FAULT_LINE_FALL (R96): the fall does not unlock the channel. -/
def execFaultLineFall (n : Fin 8) (s : State) : Host.Outcome State Fault Refusal := .next (setFaultLine n false s)

/-- The row GATE_WIDTH_END. -/
def execGateWidthEnd (n : Fin 8) (s : State) : Host.Outcome State Fault Refusal := .next (outOfReset (closeGate n) s)

/-- The row PULSE_SYNC. -/
def execPulseSync (s : State) : Host.Outcome State Fault Refusal := .next (takePulseSync s)

/-- The row SYNC_CONFIG_WRITE. -/
def execSyncConfigWrite (w : Word) (s : State) : Host.Outcome State Fault Refusal := .next (outOfReset (writeSyncConfig w) s)

/-- The row SYNC_START. -/
def execSyncStart (i : Fin 4) (s : State) : Host.Outcome State Fault Refusal := .next (outOfReset (startPulse i) s)

/-- The row SYNC_END. -/
def execSyncEnd (i : Fin 4) (s : State) : Host.Outcome State Fault Refusal := .next (outOfReset (endPulse i) s)

end Sys2Proof.Machine
end

