-- ==== Sys2Proof/Machine/Port.lean ====
section
/-! DEFINITION. The Table Port: OPEN_LOAD, OPEN_READ, CLOSE_PORT, TP_DATA_WRITE and TP_DATA_READ (R128 to R144). -/
namespace Sys2Proof.Machine

/-- The table that ARG0 of an OPEN command names (R129). -/
def tableOf : Nat → TableKind
  | 0 => .steps
  | _ => .order

/-- The staging Order List as the close of an ORDER load session leaves it: its length is the start index plus the
entries written (R137). -/
def closedOrder (s : State) : List OrderEntry :=
  ((stagingBank s).order ++ s.port.beyond).take (s.port.start + s.port.written)

/-- An ORDER load session is open. -/
def orderLoad (s : State) : Bool := s.port.kind = .load && s.port.table = .order

/-- The effects of a close on the error and on the staging bank, by session (R132). -/
def closeEffects (s : State) : State :=
  if orderLoad s then setStaging { stagingBank s with order := closedOrder s } s
  else if s.port.kind = .load && s.port.wordPos != 0 then portError .partialRecord (word s.port.next) s
  else s

/-- The close of the open session (R132). -/
def closeSession (s : State) : State := endSession (closeEffects s)

/-- The staging length as it will stand once the session being replaced has closed (R129, R131). -/
def lengthAfterClose (s : State) : Nat :=
  if orderLoad s then s.port.start + s.port.written else (stagingBank s).order.length

/-- An accepted OPEN (R131): the error set to NONE, the old session closed, the new one opened. -/
def openSession (kind : SessionKind) (table : TableKind) (bank : BankRole) (start : Nat) (s : State) : State :=
  let t := { s with port := { s.port with lastError := .none, errorIndex := 0 } }
  let t := if t.port.kind = .none then t else closeSession t
  { t with port := { t.port with kind := kind, table := table, bank := bank, start := start, next := start, wordPos := 0,
                                 assembly := [], written := 0, beyond := [], tableFull := false } }

/-- The range that the Command Unit checks for a table and a start index (R129, R130). -/
def openRange (s : State) : Bool :=
  (arg 0 s = 0 && arg 1 s ≤ 127) || (arg 0 s = 1 && arg 1 s ≤ 511)

/-- OPEN_LOAD (0x18). -/
def takeOpenLoad (s : State) : State :=
  takeCommand 0x18 (openRange s)
    (firstRefusal [(s.tables.commitPending, .commitPending), (loadInFlight s || saveOfStagingInFlight s, .storeBusy),
      (arg 0 s = 1 && lengthAfterClose s < arg 1 s, .badArgument)])
    (openSession .load (tableOf (arg 0 s)) .staging (arg 1 s)) s

/-- The bank that a bank argument names (10.4). -/
def bankOf : Nat → BankRole
  | 0 => .active
  | _ => .staging

/-- OPEN_READ (0x19). -/
def takeOpenRead (s : State) : State :=
  takeCommand 0x19 (openRange s && arg 2 s ≤ 1)
    (firstRefusal [(arg 2 s = 1 && loadInFlight s, .storeBusy)])
    (openSession .read (tableOf (arg 0 s)) (bankOf (arg 2 s)) (arg 1 s)) s

/-- CLOSE_PORT (0x1A). -/
def takeClosePort (s : State) : State :=
  takeCommand 0x1A true (firstRefusal [(s.port.kind = .none, .wrongState)]) closeSession s

/-! ### Words of a load session -/

/-- A word written past the end of the table: TABLE_FULL once per session (R136, R137). -/
def pastEnd (s : State) : State :=
  if s.port.tableFull then s
  else portError .tableFull (word s.port.next) { s with port := { s.port with tableFull := true } }

/-- The staging Step Table entry at an index defined with a record (R136). -/
def storeStep (i : Nat) (r : StepRecord) (s : State) : State :=
  if h : i < 128 then
    setStaging { stagingBank s with steps := (stagingBank s).steps.set i (some r) } s
  else s

/-- A completed record: stored when it passes its checks, else discarded and reported; the next index advances in both
cases (R135, R136). -/
def completeRecord (ws : List Word) (s : State) : State :=
  let t := match decodeRecord ws with
    | .ok r => storeStep s.port.next r s
    | .error e => portError e (word s.port.next) s
  { t with port := { t.port with assembly := [], wordPos := 0, next := s.port.next + 1 } }

/-- A header word (R133), which with counts out of range puts the session into DESYNC (R134). -/
def headerWord (w : Word) (s : State) : State :=
  if headerLegal w then { s with port := { s.port with assembly := [w], wordPos := 1 } }
  else portError .badHeader (word s.port.next) { s with port := { s.port with kind := .desync } }

/-- A word of a step load session (R133). -/
def stepWord (w : Word) (s : State) : State :=
  if 128 ≤ s.port.next then pastEnd s
  else
    match s.port.assembly with
    | [] => headerWord w s
    | header :: _ =>
      if s.port.assembly.length + 1 < declaredLength header then
        { s with port := { s.port with assembly := s.port.assembly ++ [w], wordPos := s.port.assembly.length + 1 } }
      else completeRecord (s.port.assembly ++ [w]) s

/-- A word of an ORDER load session (R137): below L it replaces the entry at once; at or beyond L it is stored for the
close to reach. -/
def orderWord (w : Word) (s : State) : State :=
  if 512 ≤ s.port.next then pastEnd s
  else
    let t :=
      if s.port.next < (stagingBank s).order.length then
        setStaging { stagingBank s with order := (stagingBank s).order.set s.port.next (decodeOrder w) } s
      else { s with port := { s.port with beyond := s.port.beyond ++ [decodeOrder w] } }
    { t with port := { t.port with next := s.port.next + 1, written := s.port.written + 1 } }

/-- A write to TP_DATA, by session (R133, R134, R137, R140). -/
def writeTpData (w : Word) (s : State) : State :=
  match s.port.kind with
  | .none => portError .noSession 0xFFFF s
  | .read => portError .wrongDirection (word s.port.next) s
  | .desync => s
  | .load =>
    match s.port.table with
    | .steps => stepWord w s
    | .order => orderWord w s

/-! ### Words of a read session -/

/-- The bank that the session works on. -/
def sessionBank (s : State) : Bank := s.tables.bank (s.tables.ofRole s.port.bank)

/-- The image of the step at the next index (R138). -/
def nextImage (s : State) : List Word :=
  if h : s.port.next < 128 then stepImage (sessionBank s).steps[s.port.next] else []

/-- The word that a read of TP_DATA returns (R138, R139, R140). -/
def tpDataWord (s : State) : Word :=
  if s.port.kind = .read then
    match s.port.table with
    | .steps => ((nextImage s)[s.port.wordPos]?).getD 0
    | .order =>
      match (sessionBank s).order[s.port.next]? with
      | some e => encodeOrder e
      | none => 0
  else 0

/-- What a read of TP_DATA does to the session (R138, R139, R140). -/
def advanceRead (s : State) : State :=
  match s.port.kind with
  | .none => portError .noSession 0xFFFF s
  | .load => portError .wrongDirection (word s.port.next) s
  | .desync => portError .wrongDirection (word s.port.next) s
  | .read =>
    match s.port.table with
    | .steps =>
      if 128 ≤ s.port.next then s
      else if s.port.wordPos + 1 < (nextImage s).length then
        { s with port := { s.port with wordPos := s.port.wordPos + 1 } }
      else { s with port := { s.port with next := s.port.next + 1, wordPos := 0 } }
    | .order => if 512 ≤ s.port.next then s else { s with port := { s.port with next := s.port.next + 1 } }

/-- The row OPEN_LOAD. -/
def execOpenLoad (s : State) : Host.Outcome State Fault Refusal := .next (takeOpenLoad s)

/-- The row OPEN_READ. -/
def execOpenRead (s : State) : Host.Outcome State Fault Refusal := .next (takeOpenRead s)

/-- The row CLOSE_PORT. -/
def execClosePort (s : State) : Host.Outcome State Fault Refusal := .next (takeClosePort s)

/-- The row TP_DATA_WRITE. -/
def execTpDataWrite (w : Word) (s : State) : Host.Outcome State Fault Refusal := .next (outOfReset (writeTpData w) s)

/-- The row TP_DATA_READ. -/
def execTpDataRead (s : State) : Host.Outcome State Fault Refusal := .next (readAccess tpDataWord advanceRead s)

end Sys2Proof.Machine
end

