-- ==== Sys2Proof/Machine/Programs.lean ====
section
/-! DEFINITION. COMMIT, CANCEL_COMMIT, COPY_ACTIVE and CLEAR_STAGING (R14 to R20). -/
namespace Sys2Proof.Machine

/-- The refusals of COMMIT, in order (R14); VALIDATION_FAILED has its detail (R13). -/
def commitRefusal (s : State) : Option (ResultCode × Word) :=
  match firstRefusal [(saveInFlight s || loadInFlight s, .storeBusy), (loadSession s, .portOpen),
      (s.tables.commitPending, .commitPending), (s.tables.incomplete, .stagingIncomplete)] with
  | some r => some r
  | none =>
    match (stagingBank s).validate with
    | some detail => some (.validationFailed, detail)
    | none => none

/-- The effect of an accepted COMMIT: the swap at once when STOPPED, else a pending commit (R15). -/
def commitEffect (s : State) : State :=
  if s.seq.state = .stopped then swapBanks s else { s with tables := { s.tables with commitPending := true } }

/-- COMMIT (0x10). -/
def takeCommit (s : State) : State := takeCommand 0x10 true (commitRefusal s) commitEffect s

/-- CANCEL_COMMIT (0x11). -/
def takeCancelCommit (s : State) : State :=
  takeCommand 0x11 true (firstRefusal [(!s.tables.commitPending, .wrongState)])
    (fun t => { t with tables := { t.tables with commitPending := false } }) s

/-- The refusals of COPY_ACTIVE and CLEAR_STAGING, in order (R19, R20). -/
def replaceRefusal (s : State) : Option (ResultCode × Word) :=
  firstRefusal [(s.tables.commitPending, .commitPending), (loadSession s, .portOpen),
    (saveInFlight s || loadInFlight s, .storeBusy)]

/-- The staging bank replaced by a command: its contents, the INCOMPLETE marker cleared, and a read session on it ended
(R19, R20). -/
def replaceStaging (b : Bank) (s : State) : State :=
  let t := setStaging b s
  endStagingRead { t with tables := { t.tables with incomplete := false } }

/-- COPY_ACTIVE (0x12). -/
def takeCopyActive (s : State) : State :=
  takeCommand 0x12 true (replaceRefusal s) (fun t => replaceStaging (activeBank t) t) s

/-- CLEAR_STAGING (0x13). -/
def takeClearStaging (s : State) : State :=
  takeCommand 0x13 true (replaceRefusal s) (replaceStaging Bank.empty) s

/-- The row COMMIT. -/
def execCommit (s : State) : Host.Outcome State Fault Refusal := .next (takeCommit s)

/-- The row CANCEL_COMMIT. -/
def execCancelCommit (s : State) : Host.Outcome State Fault Refusal := .next (takeCancelCommit s)

/-- The row COPY_ACTIVE. -/
def execCopyActive (s : State) : Host.Outcome State Fault Refusal := .next (takeCopyActive s)

/-- The row CLEAR_STAGING. -/
def execClearStaging (s : State) : Host.Outcome State Fault Refusal := .next (takeClearStaging s)

end Sys2Proof.Machine
end

