-- ==== Sys2Proof/Machine/Records.lean ====
section
/-! DEFINITION. The words of the head record, REC9_READ, FLUSH_RECORDS and CLEAR_COUNTERS (R113, R122 to R125, R173). -/
namespace Sys2Proof.Machine

/-- The encoding of a record's source: 0 to 4, or 7 for NONE (10.4). -/
def sourceCode : Option Source → Nat
  | some src => src.val
  | none => 7

/-- The encoding of a record's outcome (10.4). -/
def shotOutcomeCode : ShotOutcome → Nat
  | .done => 0
  | .stopped => 1
  | .aborted => 2

/-- Word `k` of a shot record, REC0 to REC9 (10.4). -/
def ShotRecord.recWord (r : ShotRecord) : Nat → Word
  | 0 => r.sequence
  | 1 => word (r.tag.toNat * 256 + r.step.val)
  | 2 => word (sourceCode r.source * 8192 + (r.repetition - 1) * 512 + r.position)
  | 3 => r.pass
  | 4 => word (flagNat r.faultSeen * 8192 + flagNat r.creditShort * 4096 + flagNat r.syncCut * 2048
              + flagNat r.manual * 1024 + flagNat r.late * 512 + flagNat r.exposed * 256 + shotOutcomeCode r.outcome)
  | 5 => word (r.lit.toNat * 256 + r.skipped.toNat)
  | 6 => word r.cut.toNat
  | 7 => r.lateness
  | 8 => word (r.time.toNat % 65536)
  | 9 => word (r.time.toNat / 65536)
  | _ => 0

/-- Word `k` of the head record; 0 when the queue is empty (R122). -/
def headWord (k : Nat) (s : State) : Word :=
  match s.records.queue with
  | r :: _ => r.recWord k
  | [] => 0

/-- The pop that a read of REC9 makes, which grants a waiting request; an empty queue pops nothing (R122, R123). -/
def popRecord (s : State) : State :=
  match s.records.queue with
  | [] => s
  | _ :: rest => grantWaiting { s with records := { s.records with queue := rest } }

/-- FLUSH_RECORDS (0x28) (R125). -/
def takeFlushRecords (s : State) : State :=
  takeCommand 0x28 true none (fun t => grantWaiting { t with records := { t.records with queue := [] } }) s

/-- CLEAR_COUNTERS (0x29) (R173). -/
def takeClearCounters (s : State) : State := takeCommand 0x29 true none zeroCounters s

/-- The row REC9_READ. -/
def execRec9Read (s : State) : Host.Outcome State Fault Refusal := .next (readAccess (headWord 9) popRecord s)

/-- The row FLUSH_RECORDS. -/
def execFlushRecords (s : State) : Host.Outcome State Fault Refusal := .next (takeFlushRecords s)

/-- The row CLEAR_COUNTERS. -/
def execClearCounters (s : State) : Host.Outcome State Fault Refusal := .next (takeClearCounters s)

end Sys2Proof.Machine
end

