-- ==== Sys2Proof/Machine/Registers.lean ====
section
/-! DEFINITION. The writes of the configuration registers, and TSC_LO_READ (R56, R58, R60, R71, R77 to R79, R86, R95, R119,
R124, R147, R166, R172, R176, R178, R181). -/
namespace Sys2Proof.Machine

/-- A read of TSC_LO latches the high half of the TSC into the snapshot (R56). -/
def latchTsc (s : State) : State :=
  { s with timebase := { s.timebase with snapshot := word (s.timebase.tsc.toNat / 65536) } }

/-- The word that a read of TSC_LO returns (R56). -/
def tscLow (s : State) : Word := word (s.timebase.tsc.toNat % 65536)

/-- A write to STATUS_FLAGS clears each flag whose bit is 1 (R176). -/
def writeStatusFlags (w : Word) (s : State) : State :=
  { s with status := { s.status with flags := s.status.flags &&& ~~~w } }

/-- A write to IRQ_ENABLE; the unused bits are disregarded (R178). -/
def writeIrqEnable (w : Word) (s : State) : State :=
  { s with status := { s.status with irqEnable := w &&& enableBits } }

/-- A write to REC_THRESHOLD (R124). -/
def writeRecThreshold (w : Word) (s : State) : State :=
  if w.toNat = 0 ∨ 32 < w.toNat then writeIgnored s else { s with records := { s.records with threshold := w } }

/-- The guard policy that a POLICY field names; 3 names none (R95, 10.3). -/
def guardOf : Nat → Option GuardPolicy
  | 0 => some .skip
  | 1 => some .hold
  | 2 => some .abort
  | _ => none

/-- The policies that a POLICY write in STOPPED leaves (R64, R95, R119). -/
def policiesOf (w : Word) (old : Policies) : Policies :=
  { guardPolicy := (guardOf (bits w 1 0)).getD old.guardPolicy
    faultPolicy := if bit w 2 then .stop else .continue
    recordPolicy := if bit w 3 then .drop else .hold
    acceptance := if bit w 4 then .onlyWhenWaiting else .queueAny }

/-- A write to POLICY (R64, R95, R119). -/
def writePolicy (w : Word) (s : State) : State :=
  if s.seq.state = .stopped then
    let t := { s with policy := policiesOf w s.policy }
    if (guardOf (bits w 1 0)).isNone then writeIgnored t else t
  else writeIgnored s

/-- The edge select of a code (10.3). -/
def edgeSelectOf : Nat → EdgeSelect
  | 0 => .off
  | 1 => .rising
  | 2 => .falling
  | _ => .both

/-- A write to TRIG_CONFIG (R58). -/
def writeTrigConfig (w : Word) (s : State) : State :=
  { s with triggers := { s.triggers with inputs := Vector.ofFn fun i =>
      { s.triggers.inputs[i] with select := edgeSelectOf (bits w (2 * i.val + 1) (2 * i.val)) } } }

/-- A write to a HOLDOFF register: a window already open keeps its closing time (R60). -/
def writeHoldoff (i : Fin 4) (w : Word) (s : State) : State :=
  { s with triggers := { s.triggers with inputs := s.triggers.inputs.set i { s.triggers.inputs[i] with holdoff := w } } }

/-- A write to LATE_TOLERANCE (R71). -/
def writeLateTolerance (w : Word) (s : State) : State :=
  { s with triggers := { s.triggers with lateTolerance := w } }

/-- A write to HOLD_TIMEOUT (R23). -/
def writeHoldTimeout (w : Word) (s : State) : State := { s with seq := { s.seq with holdTimeout := w } }

/-- A write to an argument register (R166). -/
def writeArg (i : Fin 4) (w : Word) (s : State) : State := { s with cmd := { s.cmd with arg := s.cmd.arg.set i w } }

/-- A write to CH_SELECT (R79). -/
def writeChSelect (w : Word) (s : State) : State :=
  if h : w.toNat < 8 then { s with channels := { s.channels with select := ⟨w.toNat, h⟩ } } else writeIgnored s

/-- A write to CH_TRIM (R77). -/
def writeChTrim (w : Word) (s : State) : State :=
  if 1 ≤ w.toNat ∧ w.toNat ≤ 256 then
    setChannel s.channels.select { s.channels.channel[s.channels.select] with trim := w } s
  else writeIgnored s

/-- A write to CH_RATE (R86). -/
def writeChRate (w : Word) (s : State) : State :=
  if w.toNat ≤ 4095 then
    setChannel s.channels.select { s.channels.channel[s.channels.select] with rate := w } s
  else writeIgnored s

/-- A write to DIR_SELECT (R147). -/
def writeDirSelect (w : Word) (s : State) : State :=
  if h : w.toNat < 6 then { s with store := { s.store with dirSelect := ⟨w.toNat, h⟩ } } else writeIgnored s

/-- A write to CNT_SELECT (R172). -/
def writeCntSelect (w : Word) (s : State) : State :=
  if h : w.toNat < 9 then { s with counters := { s.counters with select := ⟨w.toNat, h⟩ } } else writeIgnored s

/-- The row TSC_LO_READ. -/
def execTscLoRead (s : State) : Host.Outcome State Fault Refusal := .next (readAccess tscLow latchTsc s)

/-- The row STATUS_FLAGS_WRITE. -/
def execStatusFlagsWrite (w : Word) (s : State) : Host.Outcome State Fault Refusal :=
  .next (outOfReset (writeStatusFlags w) s)

/-- The row POLICY_WRITE. -/
def execPolicyWrite (w : Word) (s : State) : Host.Outcome State Fault Refusal := .next (outOfReset (writePolicy w) s)

/-- The row REC_THRESHOLD_WRITE. -/
def execRecThresholdWrite (w : Word) (s : State) : Host.Outcome State Fault Refusal :=
  .next (outOfReset (writeRecThreshold w) s)

/-- The row IRQ_ENABLE_WRITE. -/
def execIrqEnableWrite (w : Word) (s : State) : Host.Outcome State Fault Refusal :=
  .next (outOfReset (writeIrqEnable w) s)

end Sys2Proof.Machine
end

