-- ==== Sys2Proof/Machine/Resets.lean ====
section
/-! DEFINITION. HARDWARE_RESET, RESET_END and SOFT_RESET (R185, R164, R170, R171). -/
namespace Sys2Proof.Machine

/-- Every block at its value for hardware reset; the array and the levels of the pins stay (R21, R53, R73, R101, R112,
R126, R144, R165, R166, R172, R177). -/
def resetBlocks (s : State) : State :=
  { s with inReset := true
           timebase := Timebase.reset
           triggers := TriggerUnit.reset fun i => (s.triggers.inputs[i]).level
           channels := ChannelUnit.reset fun i => (s.channels.channel[i]).faultLine
           syncs := Vector.replicate 4 SyncOutput.reset
           seq := Sequencer.reset
           tables := TableMemory.reset
           port := TablePort.reset
           records := RecordUnit.reset
           store := StoreController.reset s.store.array .done
           policy := Policies.reset
           cmd := CommandUnit.reset
           status := StatusUnit.reset
           counters := Counters.reset }

/-- RSTn asserted (R185): a sector step in flight is cut off (R164), and every block is reset. -/
def hardwareReset (s : State) : State := resetBlocks (cutOffStep s)

/-- A fault line asserted as the reset ends locks its channel at once (R96, R101). -/
def lockAsserted (s : State) : State :=
  allChannels.foldl (fun t n => if (t.channels.channel[n]).faultLine then lockChannel n t else t) s

/-- RSTn released (R185): the part enters BOOTING and starts the scan (R161). With RSTn not asserted there is nothing to
release (log 17). -/
def releaseReset (s : State) : State :=
  if s.inReset then
    lockAsserted { s with inReset := false, store := { s.store with boot := .scanHeader 0 } }
  else s

/-- The Sequencer after SOFT_RESET (R53, R54). -/
def Sequencer.softReset (q : Sequencer) : Sequencer :=
  { q with state := .stopped, hold := .none, stopReason := .reset, passesTaken := 0, position := 0, repetition := 1,
           passCount := 0, sequence := 0, pauseRequest := false, holdTimer := none, context := none }

/-- A store operation in flight aborted as by ABORT_STORE, to end without STORE_DONE (R165, R171). DESIGN CHOICE (log 23): the
abort-pending bit of STORE_STATUS shows this abort as it shows one by ABORT_STORE, which R151 and R165 leave open. -/
def softAbort (s : State) : State :=
  if storeBusy s then { s with store := { s.store with abortPending := true, quiet := true } } else s

/-- The effects of SOFT_RESET in every block (R170). -/
def softResetEffect (s : State) : State :=
  let t := softAbort <| zeroCounters <| cutPulses <| closeGates <| flushTriggers <| endSession s
  { t with seq := t.seq.softReset
           tables := { t.tables with commitPending := false }
           records := { t.records with queue := [], reserved := false, waitingRequest := false }
           status := { t.status with flags := 0 } }

/-- SOFT_RESET (0x3F) (R170). -/
def takeSoftReset (s : State) : State := takeCommand 0x3F true none softResetEffect s

/-- The row HARDWARE_RESET. -/
def execHardwareReset (s : State) : Host.Outcome State Fault Refusal := .next (hardwareReset s)

/-- The row RESET_END. -/
def execResetEnd (s : State) : Host.Outcome State Fault Refusal := .next (releaseReset s)

/-- The row SOFT_RESET. -/
def execSoftReset (s : State) : Host.Outcome State Fault Refusal := .next (takeSoftReset s)

end Sys2Proof.Machine
end

