-- ==== Sys2Proof/Machine/Window.lean ====
section
/-! DEFINITION. A write at any address of the register window (10.2, R181, R182): the rows REGISTER_WRITE and
UNKNOWN_COMMAND. -/
namespace Sys2Proof.Machine

/-- A write to COMMAND: the command that the code names is taken (R167). Rows that no code names do not come from
commandOfCode. -/
def writeCommand (code : Word) (s : State) : State :=
  match commandOfCode code with
  | .run => takeRun s
  | .stop => takeStop s
  | .pause => takePause s
  | .resume => takeResume s
  | .step => takeStep s
  | .softTrigger => takeSoftTrigger s
  | .commit => takeCommit s
  | .cancelCommit => takeCancelCommit s
  | .copyActive => takeCopyActive s
  | .clearStaging => takeClearStaging s
  | .openLoad => takeOpenLoad s
  | .openRead => takeOpenRead s
  | .closePort => takeClosePort s
  | .unlockChannel => takeUnlockChannel s
  | .pulseSync => takePulseSync s
  | .flushRecords => takeFlushRecords s
  | .clearCounters => takeClearCounters s
  | .save => takeSave s
  | .load => takeLoad s
  | .erase => takeErase s
  | .setStartup => takeSetStartup s
  | .abortStore => takeAbortStore s
  | .softReset => takeSoftReset s
  | _ => takeUnknown code s

/-- A write at an address, outside reset: each register's own write; read-only registers and the unused addresses ignore
it without a flag (R181). -/
def writeRegister (addr : BitVec 6) (w : Word) (s : State) : State :=
  match addr.toNat with
  | 0x02 => writeCommand w s
  | 0x05 => writeArg 0 w s
  | 0x06 => writeArg 1 w s
  | 0x07 => writeArg 2 w s
  | 0x08 => writeArg 3 w s
  | 0x09 => writeStatusFlags w s
  | 0x0A => writeIrqEnable w s
  | 0x10 => writeTpData w s
  | 0x12 => writeTrigConfig w s
  | 0x13 => writeHoldoff 0 w s
  | 0x14 => writeHoldoff 1 w s
  | 0x15 => writeHoldoff 2 w s
  | 0x16 => writeHoldoff 3 w s
  | 0x17 => writeLateTolerance w s
  | 0x18 => writeHoldTimeout w s
  | 0x19 => writePolicy w s
  | 0x1A => writeChEnable w s
  | 0x1C => writeChSelect w s
  | 0x1D => writeChTrim w s
  | 0x1E => writeChCeiling w s
  | 0x1F => writeChRate w s
  | 0x21 => writeSyncConfig w s
  | 0x23 => writeRecThreshold w s
  | 0x30 => writeDirSelect w s
  | 0x35 => writeCntSelect w s
  | _ => s

/-- The row REGISTER_WRITE. -/
def execRegisterWrite (addr : BitVec 6) (w : Word) (s : State) : Host.Outcome State Fault Refusal :=
  .next (outOfReset (writeRegister addr w) s)

/-- The row UNKNOWN_COMMAND; a code that is in the command table takes its command, as the bus write does (log 16). -/
def execUnknownCommand (code : Word) (s : State) : Host.Outcome State Fault Refusal :=
  .next (outOfReset (writeCommand code) s)

end Sys2Proof.Machine
end

