-- ==== Sys2Proof/Machine/Dispatch.lean ====
section
/-! DEFINITION. exec: one arm per row of the table, each a call of that row's meaning. -/
namespace Sys2Proof.Machine

def exec (i : Instr) (s : State) : Host.Outcome State Fault Refusal :=
  match i with
  | .run => Sys2Proof.Machine.execRun s
  | .stop => Sys2Proof.Machine.execStop s
  | .pause => Sys2Proof.Machine.execPause s
  | .resume => Sys2Proof.Machine.execResume s
  | .step => Sys2Proof.Machine.execStep s
  | .softTrigger => Sys2Proof.Machine.execSoftTrigger s
  | .commit => Sys2Proof.Machine.execCommit s
  | .cancelCommit => Sys2Proof.Machine.execCancelCommit s
  | .copyActive => Sys2Proof.Machine.execCopyActive s
  | .clearStaging => Sys2Proof.Machine.execClearStaging s
  | .openLoad => Sys2Proof.Machine.execOpenLoad s
  | .openRead => Sys2Proof.Machine.execOpenRead s
  | .closePort => Sys2Proof.Machine.execClosePort s
  | .unlockChannel => Sys2Proof.Machine.execUnlockChannel s
  | .pulseSync => Sys2Proof.Machine.execPulseSync s
  | .flushRecords => Sys2Proof.Machine.execFlushRecords s
  | .clearCounters => Sys2Proof.Machine.execClearCounters s
  | .save => Sys2Proof.Machine.execSave s
  | .load => Sys2Proof.Machine.execLoad s
  | .erase => Sys2Proof.Machine.execErase s
  | .setStartup => Sys2Proof.Machine.execSetStartup s
  | .abortStore => Sys2Proof.Machine.execAbortStore s
  | .softReset => Sys2Proof.Machine.execSoftReset s
  | .unknownCommand code => Sys2Proof.Machine.execUnknownCommand code s
  | .tscLoRead => Sys2Proof.Machine.execTscLoRead s
  | .rec9Read => Sys2Proof.Machine.execRec9Read s
  | .tpDataWrite w => Sys2Proof.Machine.execTpDataWrite w s
  | .tpDataRead => Sys2Proof.Machine.execTpDataRead s
  | .statusFlagsWrite w => Sys2Proof.Machine.execStatusFlagsWrite w s
  | .chEnableWrite w => Sys2Proof.Machine.execChEnableWrite w s
  | .syncConfigWrite w => Sys2Proof.Machine.execSyncConfigWrite w s
  | .chCeilingWrite w => Sys2Proof.Machine.execChCeilingWrite w s
  | .policyWrite w => Sys2Proof.Machine.execPolicyWrite w s
  | .recThresholdWrite w => Sys2Proof.Machine.execRecThresholdWrite w s
  | .irqEnableWrite w => Sys2Proof.Machine.execIrqEnableWrite w s
  | .registerWrite addr w => Sys2Proof.Machine.execRegisterWrite addr w s
  | .triggerEdge input level => Sys2Proof.Machine.execTriggerEdge input level s
  | .faultAssert channel => Sys2Proof.Machine.execFaultAssert channel s
  | .faultLineFall channel => Sys2Proof.Machine.execFaultLineFall channel s
  | .hardwareReset => Sys2Proof.Machine.execHardwareReset s
  | .resetEnd => Sys2Proof.Machine.execResetEnd s
  | .millisecondEvent => Sys2Proof.Machine.execMillisecondEvent s
  | .holdTimerExpiry => Sys2Proof.Machine.execHoldTimerExpiry s
  | .dueInstant => Sys2Proof.Machine.execDueInstant s
  | .gateWidthEnd channel => Sys2Proof.Machine.execGateWidthEnd channel s
  | .syncStart output => Sys2Proof.Machine.execSyncStart output s
  | .syncEnd output => Sys2Proof.Machine.execSyncEnd output s
  | .gapEnd => Sys2Proof.Machine.execGapEnd s
  | .holdoffWindowClose input => Sys2Proof.Machine.execHoldoffWindowClose input s
  | .eraseAttemptDone verified => Sys2Proof.Machine.execEraseAttemptDone verified s
  | .programStepDone verified => Sys2Proof.Machine.execProgramStepDone verified s
  | .sectorReadDone => Sys2Proof.Machine.execSectorReadDone s
  | .storedWordChange place flip => Sys2Proof.Machine.execStoredWordChange place flip s

end Sys2Proof.Machine
end

