-- ==== Sys2Proof/Machine/Idle.lean ====
section
/-! DEFINITION. What the part does when no command waits (log 1): the timed events that are due are put in the queue, in
an order that the spec leaves open (log 2); with none due, one microsecond passes (R55, R57). -/
namespace Sys2Proof.Machine

/-- A command when a condition holds. -/
def whenDue (due : Bool) (c : Instr) : List Instr := if due then [c] else []

/-- A SCHEDULED output whose start has come (R106). -/
def startDue (i : Fin 4) (s : State) : Bool :=
  match (s.syncs[i]).pulse with
  | .scheduled start _ => hasCome s.timebase.tsc start
  | _ => false

/-- An ACTIVE output whose end has come (R106). -/
def endDue (i : Fin 4) (s : State) : Bool :=
  match (s.syncs[i]).pulse with
  | .active _ finish => hasCome s.timebase.tsc finish
  | _ => false

/-- An open holdoff window whose closing time has come (R59). -/
def windowDue (i : Fin 4) (s : State) : Bool :=
  match (s.triggers.inputs[i]).window with
  | some t => hasCome s.timebase.tsc t
  | none => false

/-- The due instant of the step in DELAYING has come and has not been taken (R35). -/
def dueInstantDue (s : State) : Bool :=
  s.seq.state = .delaying &&
    match s.seq.context with
    | some c => !c.dueReached && dueHasCome s c
    | none => false

/-- The gap of the step in SETTLING has run (R39). -/
def gapDue (s : State) : Bool :=
  match s.seq.context with
  | some c => gapOver s c
  | none => false

/-- The timed events that are due now. -/
def dueEvents (s : State) : List Instr :=
  allFour.flatMap (fun i => whenDue (windowDue i s) (.holdoffWindowClose i)) ++
  whenDue s.timebase.msDue .millisecondEvent ++
  whenDue (holdTimerOver s) .holdTimerExpiry ++
  whenDue (dueInstantDue s) .dueInstant ++
  allChannels.flatMap (fun n => whenDue (gateWidthOver n s) (.gateWidthEnd n)) ++
  allFour.flatMap (fun i => whenDue (startDue i s) (.syncStart i)) ++
  allFour.flatMap (fun i => whenDue (endDue i s) (.syncEnd i)) ++
  whenDue (gapDue s) .gapEnd

/-- A list with an element put in at a place; a place behind the end is the end. -/
def insertAt (x : Instr) : Nat → List Instr → List Instr
  | 0, ys => x :: ys
  | _ + 1, [] => [x]
  | n + 1, y :: ys => y :: insertAt x n ys

/-- The order in which events that are due together are taken: free (log 2). -/
def arrange (n : Nat) : List Instr → List Instr
  | [] => []
  | [x] => [x]
  | x :: y :: ys =>
    insertAt x (Config.freePlace n (ys.length + 1) % (ys.length + 2)) (arrange n (y :: ys))

/-- The divider after one more microsecond, and whether a millisecond event is due (R57). -/
def tickDivider (t : Timebase) : Timebase :=
  if t.divider = 999 then { t with divider := 0, msDue := true } else { t with divider := t.divider + 1 }

/-- One microsecond passes: the TSC and the millisecond divider count (R55, R57). -/
def microsecond (s : State) : State :=
  { s with timebase := { tickDivider s.timebase with tsc := s.timebase.tsc + 1, completions := 0 } }

/-- The steps of one pass of a bank: the repeat counts of its Order List together (R7). -/
def passSteps (b : Bank) : Nat := (b.order.map OrderEntry.count).sum

/-- A channel entry that the credit check skips as the channels stand (R88 to R92): it lights nothing and holds nothing. -/
def entryDropsOut (s : State) (e : ChannelEntry) : Bool :=
  match classify s 0 e with
  | .skipped => true
  | .unsatisfiable => true
  | .short => s.policy.guardPolicy = .skip
  | .satisfied => false

/-- A step that plays in no time as the channels stand (R35 to R39): IMMEDIATE, with a delay and a gap of 0, no sync entry,
and no channel entry that is not skipped. -/
def playsInNoTime (s : State) (r : StepRecord) : Bool :=
  r.advance = .immediate && r.delay = 0 && r.gap = 0 && r.syncs.isEmpty && r.channels.all (entryDropsOut s)

/-- An entry of the active Order List that plays in no time and after which the run goes on (R42). -/
def entryInNoTime (s : State) (e : OrderEntry) : Bool :=
  !e.haltAfter &&
    match (activeBank s).recordOf e with
    | some r => playsInNoTime s r
    | none => false

/-- A run that plays without end and without any time passing: CONTINUOUS (R30), under record policy DROP, so that no step
waits for a place (R121), with no pause request, no pending commit and no manual pulse (R36, R41, R49), of a program whose
every step plays in no time. -/
def runsInNoTime (s : State) : Bool :=
  s.seq.mode = .continuous && s.policy.recordPolicy = .drop && !s.seq.pauseRequest && !s.tables.commitPending &&
    !manualPulses s && (activeBank s).order.all (entryInNoTime s)

/-- A run without end that takes no time has played a whole pass, and a free number of steps beyond it, since the last
microsecond, and nothing but the end of the next gap is due: that gap's end waits for the next microsecond, because no state
of the Sequencer stops the TSC or the millisecond divider (R55, R57). In every other run a gap ends when R39 says. DESIGN
CHOICE (log 15): where in such a run the microseconds fall. -/
def instantSpent (s : State) : Bool :=
  runsInNoTime s && dueEvents s = [.gapEnd] &&
    passSteps (activeBank s) + Config.freeSteps s.timebase.tsc.toNat ≤ s.timebase.completions

/-- The events put in the queue, and a gap's end among them counted (log 15). -/
def deliver (es : List Instr) (s : State) : State :=
  { s with pending := arrange s.freeCount es
           freeCount := s.freeCount + 1
           timebase := { s.timebase with
             completions := s.timebase.completions + (if gapDue s then 1 else 0) } }

/-- The step on an empty queue (log 1). While RSTn is asserted the part stands still (R185). -/
def idleStep (s : State) : State :=
  if s.inReset then s
  else if dueEvents s = [] || instantSpent s then microsecond s
  else deliver (dueEvents s) s

end Sys2Proof.Machine
end

