-- ==== Sys2Proof/Machine/Views.lean ====
section
/-! DEFINITION. What the outside sees of the state: the word of every register (10.2, 10.3) and the pins (R76, R103, R179,
R185). -/
namespace Sys2Proof.Machine

/-! ### Encodings (10.3) -/

def SeqState.code : SeqState → Nat
  | .stopped => 0
  | .waiting => 1
  | .delaying => 2
  | .held => 3
  | .exposing => 4
  | .settling => 5
  | .paused => 6

def HoldReason.code : HoldReason → Nat
  | .none => 0
  | .recordSpace => 1
  | .credit => 2

def StopReason.code : StopReason → Nat
  | .none => 0
  | .host => 1
  | .finished => 2
  | .channelFault => 3
  | .creditAbort => 4
  | .holdTimeout => 5
  | .reset => 6

def RunMode.code : RunMode → Nat
  | .onePass => 0
  | .passes => 1
  | .continuous => 2
  | .manual => 3

def SessionKind.code : SessionKind → Nat
  | .none => 0
  | .load => 1
  | .read => 2
  | .desync => 3

def TableKind.code : TableKind → Nat
  | .steps => 0
  | .order => 1

def BankRole.code : BankRole → Nat
  | .active => 0
  | .staging => 1

/-- The codes of the port errors (R141). -/
def PortError.code : PortError → Nat
  | .none => 0
  | .partialRecord => 1
  | .badHeader => 2
  | .badField => 3
  | .duplicate => 4
  | .tableFull => 5
  | .wrongDirection => 6
  | .noSession => 7
  | .sessionEnded => 8

def EdgeSelect.code : EdgeSelect → Nat
  | .off => 0
  | .rising => 1
  | .falling => 2
  | .both => 3

def GuardPolicy.code : GuardPolicy → Nat
  | .skip => 0
  | .hold => 1
  | .abort => 2

def FaultPolicy.code : FaultPolicy → Nat
  | .continue => 0
  | .stop => 1

def RecordPolicy.code : RecordPolicy → Nat
  | .hold => 0
  | .drop => 1

def AcceptancePolicy.code : AcceptancePolicy → Nat
  | .queueAny => 0
  | .onlyWhenWaiting => 1

def SlotState.code : SlotState → Nat
  | .empty => 0
  | .valid => 1
  | .damaged => 2
  | .writing => 3

def StoreOperation.code : StoreOperation → Nat
  | .none => 0
  | .save => 1
  | .load => 2
  | .erase => 3
  | .setStartup => 4

def StoreOutcome.code : StoreOutcome → Nat
  | .ok => 0
  | .aborted => 1
  | .eraseFailed => 2
  | .programFailed => 3
  | .checkFailed => 4

def BootOutcome.code : BootOutcome → Nat
  | .notSet => 0
  | .loaded => 1
  | .slotEmpty => 2
  | .slotDamaged => 3
  | .checkFailed => 4
  | .invalid => 5

/-- The result codes of CMD_RESULT (the second table of R168). -/
def ResultCode.code : ResultCode → Nat
  | .accepted => 0
  | .unknownCommand => 1
  | .badArgument => 2
  | .wrongState => 3
  | .booting => 4
  | .storeBusy => 5
  | .commitPending => 6
  | .portOpen => 7
  | .stagingIncomplete => 8
  | .validationFailed => 9
  | .emptyProgram => 10
  | .slotEmpty => 11
  | .slotDamaged => 12
  | .faultPresent => 13

/-- The phase of STORE_STATUS: none, ERASING, PROGRAMMING or READING (R151). -/
def StoreJob.phaseCode : StoreJob → Nat
  | .idle => 0
  | .save _ _ _ _ _ (.erasing _ _) => 1
  | .save _ _ _ _ _ (.programming _) => 2
  | .load _ => 3
  | .erase _ _ _ => 1
  | .setStartup _ _ _ (.erasing _) => 1
  | .setStartup _ _ _ .programming => 2

/-! ### The packed registers (10.3) -/

/-- The hold reason, which is absent outside HELD and then reads 0 (R184). -/
def holdCode (s : State) : Nat := if s.seq.state = .held then s.seq.hold.code else 0

/-- DEVICE_STATUS (R174). -/
def deviceStatus (s : State) : Word :=
  word (flagNat (booting s) * 32768 + flagNat (storeBusy s) * 1024 + s.port.kind.code * 256
    + flagNat s.tables.incomplete * 128 + flagNat s.tables.commitPending * 64 + holdCode s * 16 + s.seq.state.code)

/-- SEQ_INFO (R23). -/
def seqInfo (s : State) : Word :=
  word (flagNat s.seq.pauseRequest * 16384 + (s.seq.repetition - 1) * 1024 + s.seq.mode.code * 256
    + s.seq.stopReason.code * 32 + holdCode s * 8 + s.seq.state.code)

/-- TP_STATUS (R128, R141); the table and the bank read 0 in session NONE (R184). -/
def tpStatus (s : State) : Word :=
  word (s.port.lastError.code * 512 + s.port.wordPos * 16
    + (if s.port.kind = .none then 0 else s.port.bank.code * 8 + s.port.table.code * 4) + s.port.kind.code)

/-- TRIG_CONFIG (R58). -/
def trigConfig (s : State) : Word :=
  word ((s.triggers.inputs[0]).select.code + (s.triggers.inputs[1]).select.code * 4
    + (s.triggers.inputs[2]).select.code * 16 + (s.triggers.inputs[3]).select.code * 64)

/-- POLICY (R64, R95, R119). -/
def policyWord (s : State) : Word :=
  word (s.policy.acceptance.code * 16 + s.policy.recordPolicy.code * 8 + s.policy.faultPolicy.code * 4
    + s.policy.guardPolicy.code)

/-- CH_ENABLE (R78). -/
def chEnable (s : State) : Word := word (maskOf fun i => (s.channels.channel[i]).enabled).toNat

/-- CH_LOCKED (R97, R99). -/
def chLocked (s : State) : Word := word (maskOf fun i => (s.channels.channel[i]).locked).toNat

/-- The channel that CH_SELECT names (R79). -/
def selectedChannel (s : State) : Channel := s.channels.channel[s.channels.select]

/-- The bits of one output in SYNC_CONFIG (10.3). -/
def syncConfigBits (s : State) (i : Fin 4) : Nat :=
  2 ^ i.val * (flagNat ((s.syncs[i]).polarity = .activeLow) + flagNat (s.syncs[i]).enabled * 16
    + flagNat ((s.syncs[i]).pulse != .idle) * 256)

/-- SYNC_CONFIG with its busy bits (R104). -/
def syncConfig (s : State) : Word :=
  word (syncConfigBits s 0 + syncConfigBits s 1 + syncConfigBits s 2 + syncConfigBits s 3)

/-- REC_COUNT (R118). -/
def recCount (s : State) : Word := word (flagNat s.records.reserved * 256 + s.records.queue.length)

/-- STORE_STATUS (R151). -/
def storeStatus (s : State) : Word :=
  word (flagNat (storeBusy s) * 32768 + s.store.outcome.code * 512 + flagNat s.store.abortPending * 256
    + s.store.slot.toNat * 32 + s.store.job.phaseCode * 8 + s.store.operation.code)

/-- The state of one slot in STORE_DIR. -/
def slotCode (s : State) (i : Fin 6) : Nat := (s.store.directory[i]).state.code

/-- STORE_DIR (R147, R184). -/
def storeDir (s : State) : Word :=
  word (slotCode s 0 + slotCode s 1 * 4 + slotCode s 2 * 16 + slotCode s 3 * 64 + slotCode s 4 * 256 + slotCode s 5 * 1024)

/-- The slot that DIR_SELECT names (R147). -/
def selectedSlot (s : State) : DirectoryEntry := s.store.directory[s.store.dirSelect]

/-- BOOT_INFO (R149, R162, R184). -/
def bootInfo (s : State) : Word :=
  word (autorunCode s.store.current.autorun * 256 + bootSlotCode s.store.current.bootSlot * 16 + s.store.bootOutcome.code)

/-! ### The register window -/

/-- The constant of DEVICE_ID (10.2). -/
def deviceId : Word := 0x5184

/-- The word at an address outside reset (10.2, R181 to R184). -/
def registerWord (addr : BitVec 6) (s : State) : Word :=
  match addr.toNat with
  | 0x00 => deviceId
  | 0x01 => deviceStatus s
  | 0x02 => s.cmd.last
  | 0x03 => word s.cmd.result.code
  | 0x04 => s.cmd.detail
  | 0x05 => s.cmd.arg[0]
  | 0x06 => s.cmd.arg[1]
  | 0x07 => s.cmd.arg[2]
  | 0x08 => s.cmd.arg[3]
  | 0x09 => statusWord s
  | 0x0A => s.status.irqEnable
  | 0x0B => tscLow s
  | 0x0C => s.timebase.snapshot
  | 0x0D => word s.seq.position
  | 0x0E => s.seq.passCount
  | 0x0F => seqInfo s
  | 0x10 => tpDataWord s
  | 0x11 => tpStatus s
  | 0x12 => trigConfig s
  | 0x13 => (s.triggers.inputs[0]).holdoff
  | 0x14 => (s.triggers.inputs[1]).holdoff
  | 0x15 => (s.triggers.inputs[2]).holdoff
  | 0x16 => (s.triggers.inputs[3]).holdoff
  | 0x17 => s.triggers.lateTolerance
  | 0x18 => s.seq.holdTimeout
  | 0x19 => policyWord s
  | 0x1A => chEnable s
  | 0x1B => chLocked s
  | 0x1C => word s.channels.select.val
  | 0x1D => (selectedChannel s).trim
  | 0x1E => (selectedChannel s).ceiling
  | 0x1F => (selectedChannel s).rate
  | 0x20 => (selectedChannel s).credit
  | 0x21 => syncConfig s
  | 0x22 => recCount s
  | 0x23 => s.records.threshold
  | 0x24 => headWord 0 s
  | 0x25 => headWord 1 s
  | 0x26 => headWord 2 s
  | 0x27 => headWord 3 s
  | 0x28 => headWord 4 s
  | 0x29 => headWord 5 s
  | 0x2A => headWord 6 s
  | 0x2B => headWord 7 s
  | 0x2C => headWord 8 s
  | 0x2D => headWord 9 s
  | 0x2E => storeStatus s
  | 0x2F => storeDir s
  | 0x30 => word s.store.dirSelect.val
  | 0x31 => (selectedSlot s).label
  | 0x32 => word ((selectedSlot s).generation.toNat % 65536)
  | 0x33 => word ((selectedSlot s).generation.toNat / 65536)
  | 0x34 => bootInfo s
  | 0x35 => word s.counters.select.val
  | 0x36 => s.counters.value[s.counters.select]
  | 0x37 => word s.port.next
  | 0x38 => s.port.errorIndex
  | _ => 0

/-- The word that a read of an address returns; 0 while RSTn is asserted (R185). The side effects of reads of TSC_LO, REC9
and TP_DATA are the rows of those reads; every other read leaves the state as it is (R182). -/
def readRegister (addr : BitVec 6) (s : State) : Word := if s.inReset then 0 else registerWord addr s

/-! ### The pins -/

/-- GATEn is driven active (R76, R185). -/
def gatePin (n : Fin 8) (s : State) : Bool := !s.inReset && (s.channels.channel[n]).gate.isSome

/-- The word on LVLn (R76, R185). -/
def levelPin (n : Fin 8) (s : State) : BitVec 10 :=
  if s.inReset then 0
  else
    match (s.channels.channel[n]).gate with
    | some g => g.level
    | none => 0

/-- The level of SYNCn, high for true (R103): its active level while the output is ACTIVE and enabled; low while RSTn is
asserted (R185). -/
def syncPin (i : Fin 4) (s : State) : Bool :=
  if s.inReset then false
  else
    let active := (s.syncs[i]).enabled && (s.syncs[i]).pulse.isActive
    if (s.syncs[i]).polarity = .activeHigh then active else !active

end Sys2Proof.Machine
end

