-- ==== Sys2Proof/Safety.lean ====
section
/-! DEFINITION. What a safe state is: the ranges and the agreements between blocks that the rules give, as predicates that
every step keeps. -/
namespace Sys2Proof.Machine

/-! ### Words of the statements -/

/-- Commands are examined: RSTn is released and the part is not BOOTING (R163, R185). -/
abbrev commandable (s : State) : Prop := s.inReset = false ∧ booting s = false

/-- Commands executed one after the other, as the queue does with nothing between them. -/
def runAll : List Instr → State → Host.Outcome State Fault Refusal
  | [], s => .next s
  | c :: cs, s =>
    match exec c s with
    | .next t => runAll cs t
    | .fault f => .fault f
    | .refused r => .refused r

/-- The commands taken by a write to COMMAND (the table of R168). -/
def codedCommands : List Instr :=
  [.run, .stop, .pause, .resume, .step, .softTrigger, .commit, .cancelCommit, .copyActive, .clearStaging, .openLoad,
   .openRead, .closePort, .unlockChannel, .pulseSync, .flushRecords, .clearCounters, .save, .load, .erase, .setStartup,
   .abortStore, .softReset]

/-- The accesses of the bus, but for commands: the reads with a side effect and the writes (R182). -/
def busAccess : Instr → Bool
  | .tscLoRead | .rec9Read | .tpDataRead => true
  | .tpDataWrite _ | .statusFlagsWrite _ | .chEnableWrite _ | .syncConfigWrite _ | .chCeilingWrite _ | .policyWrite _
  | .recThresholdWrite _ | .irqEnableWrite _ | .registerWrite _ _ | .unknownCommand _ => true
  | _ => false

/-- A channel entry that is satisfied (R88): no earlier check of the step has skipped it, its channel is enabled and not
locked, and its cost exceeds neither the channel's ceiling nor its credit. -/
abbrev satisfiedEntry (s : State) (c : StepContext) (e : ChannelEntry) : Prop :=
  inMask c.skipped e.channel = false ∧ (s.channels.channel[e.channel]).locked = false ∧
  (s.channels.channel[e.channel]).enabled = true ∧
  entryCost s e ≤ (s.channels.channel[e.channel]).ceiling.toNat ∧
  entryCost s e ≤ (s.channels.channel[e.channel]).credit.toNat

/-- A channel entry that a check skips under every guard policy (R88): an earlier check of the step has skipped it, its
channel is OFF or LOCKED, or its cost exceeds the channel's ceiling. -/
abbrev skippedEntry (s : State) (c : StepContext) (e : ChannelEntry) : Prop :=
  inMask c.skipped e.channel = true ∨ (s.channels.channel[e.channel]).locked = true ∨
  (s.channels.channel[e.channel]).enabled = false ∨ (s.channels.channel[e.channel]).ceiling.toNat < entryCost s e

/-- An entry of the step is short or unsatisfiable (R88): no earlier check has skipped it, its channel is enabled and not
locked, and its cost exceeds the channel's ceiling or credit. -/
abbrev findsShortage (s : State) (c : StepContext) : Prop :=
  ∃ e ∈ c.record.channels, inMask c.skipped e.channel = false ∧ (s.channels.channel[e.channel]).locked = false ∧
    (s.channels.channel[e.channel]).enabled = true ∧
    ((s.channels.channel[e.channel]).ceiling.toNat < entryCost s e ∨
      (s.channels.channel[e.channel]).credit.toNat < entryCost s e)

/-- The exposure start of a step, its context `c` before and `d` after, from the state `s` that its check finds (R36, R37, R43): the lit
channels are those of the satisfied entries, each debited its cost and opened at its effective level for its width (R80,
R89), and every other channel of the list is skipped; each sync entry is placed, ACTIVE for delay 0, else SCHEDULED (R105);
the exposure start, the lateness and LATE are fixed (R71); CREDIT_SHORT is raised once per step (R90); and the Sequencer is
EXPOSING, or, with nothing lit, SETTLING, where the gap starts at once when the step has no sync entry (R39). -/
abbrev exposureStarts (c d : StepContext) (s t : State) : Prop :=
  (∀ i : Fin 8, inMask d.lit i = true ↔ ∃ e ∈ c.record.channels, e.channel = i ∧ satisfiedEntry s c e) ∧
  (∀ i : Fin 8, inMask d.skipped i = true ↔ inMask d.lit i = false ∧ ∃ e ∈ c.record.channels, e.channel = i) ∧
  (d.creditShort = true ↔ c.creditShort = true ∨ findsShortage s c) ∧
  d = { c with
    lit := d.lit
    skipped := d.skipped
    creditShort := d.creditShort
    exposureStart := some s.timebase.tsc
    lateness := s.timebase.tsc - c.due
    late := decide (s.triggers.lateTolerance.toNat < (s.timebase.tsc - c.due).toNat)
    lastGateClose := if d.lit = 0 then some s.timebase.tsc else none
    gapStart := if d.lit = 0 ∧ c.record.syncs = [] ∧ c.gapStart = none then some s.timebase.tsc else c.gapStart } ∧
  (∀ e ∈ c.record.channels, inMask d.lit e.channel = true →
    t.channels.channel[e.channel] = { s.channels.channel[e.channel] with
      credit := word ((s.channels.channel[e.channel]).credit.toNat - entryCost s e)
      gate := some { level := BitVec.ofNat 10 (entryLevel s e)
                     closing := s.timebase.tsc + e.width.setWidth 32 } }) ∧
  (∀ i : Fin 8, inMask d.lit i = false → t.channels.channel[i] = s.channels.channel[i]) ∧
  (∀ e ∈ c.record.syncs, t.syncs[e.output] = { s.syncs[e.output] with
    pulse := if e.delay = 0 then .active .stepPulse (s.timebase.tsc + e.width.setWidth 32)
      else .scheduled (s.timebase.tsc + e.delay.setWidth 32)
        (s.timebase.tsc + e.delay.setWidth 32 + e.width.setWidth 32) }) ∧
  (∀ i : Fin 4, (∀ e ∈ c.record.syncs, e.output ≠ i) → t.syncs[i] = s.syncs[i]) ∧
  (t.status.flags, t.counters.value) = (if findsShortage s c ∧ c.creditShort = false then
      (s.status.flags ||| creditShortFlag,
        s.counters.value.set 8 (word (min 65535 ((s.counters.value[8]).toNat + 1))))
    else (s.status.flags, s.counters.value)) ∧
  t = { s with
    seq := { s.seq with
      state := if d.lit = 0 then .settling else .exposing
      hold := .none
      holdTimer := none
      context := some d }
    channels := { s.channels with channel := t.channels.channel }
    syncs := t.syncs
    counters := { s.counters with value := t.counters.value }
    status := { s.status with flags := t.status.flags } }

/-- The context of a step whose advance is taken (R35): begun, with its source, MANUAL marker, reference and due instant. -/
def begunContext (source : Option Source) (manual : Bool) (reference : Time) (c : StepContext) : StepContext :=
  { c with
    begun := true
    source := source
    manual := manual
    reference := reference
    due := reference + c.record.delay.setWidth 32 }

/-- What taking the advance does (R35): the step is DELAYING with its begun context; when the time elapsed since the reference
is at least the delay the effect is that of DUE_INSTANT on it, and else it waits. -/
abbrev stepBegins (source : Option Source) (manual : Bool) (reference : Time) (c : StepContext) (s t : State) : Prop :=
  (s.inReset = false → c.record.delay.toNat ≤ (s.timebase.tsc - reference).toNat →
    exec .dueInstant { s with seq := { s.seq with
      state := .delaying
      context := some (begunContext source manual reference c) } } = .next t) ∧
  ((s.timebase.tsc - reference).toNat < c.record.delay.toNat →
    t = { s with seq := { s.seq with
      state := .delaying
      context := some { begunContext source manual reference c with dueReached := false } } })

/-- Entry into WAITING (R33, R34), the hold left: in MANUAL mode, and for a TRIGGER step that no queued entry matches, the step
waits; an IMMEDIATE step is begun, without a source and referred to now; a TRIGGER step is served the oldest entry whose
source is in its mask, and begun with that entry's source and timestamp, the entries ahead of it discarded and counted as
STRAY (R67). -/
abbrev entersWaiting (c : StepContext) (s t : State) : Prop :=
  ((s.seq.mode = .manual ∨
      ∃ mask, c.record.advance = .trigger mask ∧ ∀ a ∈ s.triggers.queue, accepts mask a.source = false) →
    t = { s with seq := { s.seq with state := .waiting, hold := .none, holdTimer := none } }) ∧
  (s.seq.mode ≠ .manual → c.record.advance = .immediate →
    stepBegins none false s.timebase.tsc c { s with seq := { s.seq with hold := .none, holdTimer := none } } t) ∧
  (∀ (mask : SourceMask) (strays rest : List Arrival) (a : Arrival), s.seq.mode ≠ .manual →
    c.record.advance = .trigger mask → s.triggers.queue = strays ++ a :: rest →
    (∀ x ∈ strays, accepts mask x.source = false) → accepts mask a.source = true →
    stepBegins (some a.source) false a.time c { s with
      seq := { s.seq with hold := .none, holdTimer := none }
      triggers := { s.triggers with queue := rest }
      counters := { s.counters with
        value := s.counters.value.set 2 (word (min 65535 ((s.counters.value[2]).toNat + strays.length))) } } t)

/-- A step that takes no time as the channels stand (R35 to R39, R88 to R94): IMMEDIATE, with a delay and a gap of 0, no sync
entry, and every channel of its list OFF, LOCKED, unsatisfiable, or short under guard policy SKIP. -/
abbrev stepInNoTime (s : State) (r : StepRecord) : Prop :=
  r.advance = .immediate ∧ r.delay = 0 ∧ r.gap = 0 ∧ r.syncs = [] ∧
  ∀ e ∈ r.channels, (s.channels.channel[e.channel]).locked = true ∨ (s.channels.channel[e.channel]).enabled = false ∨
    (s.channels.channel[e.channel]).ceiling.toNat < entryCost s e ∨
    (s.policy.guardPolicy = .skip ∧ (s.channels.channel[e.channel]).credit.toNat < entryCost s e)

/-- A run without end that takes no time: CONTINUOUS under record policy DROP, with no pause request, no pending commit and no
manual pulse, of entries without HALT_AFTER whose steps take no time (R30, R36, R41, R42, R121). -/
abbrev endlessInNoTime (s : State) : Prop :=
  s.seq.mode = .continuous ∧ s.policy.recordPolicy = .drop ∧ s.seq.pauseRequest = false ∧ s.tables.commitPending = false ∧
  (∀ i : Fin 4, (s.syncs[i]).pulse.isManual = false) ∧
  ∀ e ∈ (activeBank s).order, e.haltAfter = false ∧ ∃ r, (activeBank s).steps[e.step] = some r ∧ stepInNoTime s r

/-- A shot record handed to the Record Unit (R120, R121): under HOLD it takes the reserved place; under DROP it is stored while
fewer than 32 records are queued, and else lost, counted and flagged. -/
def recorded (r : ShotRecord) (s : State) : State :=
  if s.policy.recordPolicy = .hold then
    { s with records := { s.records with queue := s.records.queue ++ [r], reserved := false } }
  else if s.records.queue.length < 32 then { s with records := { s.records with queue := s.records.queue ++ [r] } }
  else { s with
    counters := { s.counters with
      value := s.counters.value.set 7 (word (min 65535 ((s.counters.value[7]).toNat + 1))) }
    status := { s.status with flags := s.status.flags ||| recordLostFlag } }

/-- A record with the fields of its step (R113 to R116): of an exposed step its masks, its lateness held at 65535 and its
exposure start; of another empty masks, every channel of its list skipped, and the time of its end. -/
abbrev isRecordOf (r : ShotRecord) (o : ShotOutcome) (c : StepContext) (s : State) : Prop :=
  r.outcome = o ∧ r.sequence = s.seq.sequence ∧ r.pass = s.seq.passCount ∧ r.step = c.entry.step ∧
  r.tag = c.record.tag ∧ r.position = c.position ∧ r.repetition = c.repetition ∧ r.source = c.source ∧
  r.manual = c.manual ∧ r.creditShort = c.creditShort ∧ r.faultSeen = c.faultSeen ∧
  (∀ start, c.exposureStart = some start →
    r.exposed = true ∧ r.time = start ∧ r.lit = c.lit ∧ r.skipped = c.skipped ∧ r.cut = c.cut ∧ r.late = c.late ∧
    r.syncCut = c.syncCut ∧ r.lateness = word (min 65535 c.lateness.toNat)) ∧
  (c.exposureStart = none →
    r.exposed = false ∧ r.time = s.timebase.tsc ∧ r.lit = 0 ∧ r.cut = 0 ∧ r.late = false ∧ r.syncCut = false ∧
    r.lateness = 0 ∧ ∀ i : Fin 8, inMask r.skipped i = true ↔ ∃ e ∈ c.record.channels, e.channel = i)

/-- What a stop does for the step in progress (R46, steps 1 and 2): a begun step's record, with its open gates in the cut mask
and SYNC_CUT for its pulses, is handed over and takes the sequence number; a step that is not begun gives back its place or
its request; with no step there is nothing to do. -/
abbrev accountsForStep (o : ShotOutcome) (s u : State) : Prop :=
  (s.seq.context = none → u = s) ∧
  ∀ c, s.seq.context = some c →
    (c.begun = false → u = { s with records := { s.records with reserved := false, waitingRequest := false } }) ∧
    (c.begun = true → ∃ r,
      isRecordOf r o { c with cut := c.cut ||| openGates s, syncCut := c.syncCut || stepPulses s } s ∧
      u = { recorded r s with seq := { s.seq with sequence := s.seq.sequence + 1 } })

/-- A pending commit made (R15, R16): the roles exchanged, the cursor at 0/1, COMMIT_TAKEN set, and a read session ended with
SESSION_ENDED (R142). -/
def commitMade (s : State) : State :=
  if s.tables.commitPending = true then { s with
    tables := { s.tables with active := s.tables.active.other, commitPending := false }
    seq := { s.seq with position := 0, repetition := 1 }
    port := if s.port.kind = .read then
        { s.port with kind := .none, table := .steps, bank := .active, start := 0, assembly := [], written := 0
                      beyond := [], tableFull := false, lastError := .sessionEnded, errorIndex := word s.port.next }
      else s.port
    status := { s.status with
      flags := (if s.port.kind = .read then s.status.flags ||| portErrorFlag else s.status.flags) ||| commitTakenFlag } }
  else s

/-- The rest of a stop (R46, steps 3 to 6, R82, R110), from the state that has accounted for the step: every gate closed,
every output IDLE, the Trigger Queue flushed, the step forgotten, a pending commit made, and STOPPED entered with its reason
and SEQ_STOPPED. -/
abbrev stopsFor (why : StopReason) (u t : State) : Prop :=
  (∀ i : Fin 8, t.channels.channel[i] = { u.channels.channel[i] with gate := none }) ∧
  (∀ i : Fin 4, t.syncs[i] = { u.syncs[i] with pulse := .idle }) ∧
  t = { commitMade u with
    seq := { (commitMade u).seq with
      state := .stopped
      stopReason := why
      hold := .none
      holdTimer := none
      pauseRequest := false
      context := none }
    channels := { u.channels with channel := t.channels.channel }
    syncs := t.syncs
    triggers := { u.triggers with queue := [] }
    status := { u.status with flags := (commitMade u).status.flags ||| seqStoppedFlag } }

/-- A store operation ends with an outcome (R151): no operation in flight, no abort pending, and STORE_DONE set, but not when
SOFT_RESET has ended it (R165). -/
abbrev operationEnds (o : StoreOutcome) (s t : State) : Prop :=
  t.store.job = .idle ∧ t.store.outcome = o ∧ t.store.abortPending = false ∧ t.store.quiet = false ∧
  t.status.flags = (if s.store.quiet = true then s.status.flags else s.status.flags ||| storeDoneFlag)

/-- A store operation goes on with its next sector step. -/
abbrev operationGoesOn (j : StoreJob) (s t : State) : Prop :=
  t.store.job = j ∧ t.store.outcome = s.store.outcome ∧ t.store.abortPending = s.store.abortPending ∧
  t.store.quiet = s.store.quiet ∧ t.store.directory = s.store.directory ∧ t.status = s.status

/-- An advance word that passes its checks (R135): IMMEDIATE, or TRIGGER with a source mask that is not empty. -/
abbrev advanceChecks (w : Word) : Prop := w.toNat / 16384 = 0 ∨ (w.toNat / 16384 = 1 ∧ w.toNat % 32 ≠ 0)

/-- Channel entry `k` of the words behind a record's fourth has a level and a width that are not 0 (R135, 10.4). -/
abbrev channelChecks (body : List Word) (k : Nat) : Prop :=
  (body.getD (2 * k) 0).toNat % 1024 ≠ 0 ∧ body.getD (2 * k + 1) 0 ≠ 0

/-- Channel entry `k` names a channel that no earlier entry names (R135). -/
abbrev channelIsNew (body : List Word) (k : Nat) : Prop :=
  ∀ i < k, (body.getD (2 * i) 0).toNat / 8192 ≠ (body.getD (2 * k) 0).toNat / 8192

/-- Sync entry `k` behind `n` channel entries has a width that is not 0 (R135, 10.4). -/
abbrev syncChecks (body : List Word) (n k : Nat) : Prop := (body.getD (2 * n + 2 * k) 0).toNat % 16384 ≠ 0

/-- Sync entry `k` behind `n` channel entries names an output that no earlier entry names (R135). -/
abbrev syncIsNew (body : List Word) (n k : Nat) : Prop :=
  ∀ i < k, (body.getD (2 * n + 2 * i) 0).toNat / 16384 ≠ (body.getD (2 * n + 2 * k) 0).toNat / 16384

/-- The step record that words which pass the checks spell (10.4, R135, R136): an IMMEDIATE advance keeps no source bits, the
unused bits are disregarded, and the entries stand in the order in which they were written. -/
def spelledRecord (header advance delay gap : Word) (body : List Word) : StepRecord :=
  let n := header.toNat / 16 % 16
  { tag := BitVec.ofNat 8 (header.toNat / 256)
    advance := if advance.toNat / 16384 = 0 then .immediate else .trigger (BitVec.ofNat 5 (advance.toNat % 32))
    delay := delay
    gap := gap
    channels := (List.range n).map fun k =>
      { channel := Fin.ofNat 8 ((body.getD (2 * k) 0).toNat / 8192)
        level := BitVec.ofNat 10 ((body.getD (2 * k) 0).toNat % 1024)
        width := body.getD (2 * k + 1) 0 }
    syncs := (List.range (header.toNat % 8)).map fun k =>
      { output := Fin.ofNat 4 ((body.getD (2 * n + 2 * k) 0).toNat / 16384)
        width := BitVec.ofNat 14 ((body.getD (2 * n + 2 * k) 0).toNat % 16384)
        delay := body.getD (2 * n + 2 * k + 1) 0 } }

/-- The codes of the Sequencer's states (10.3). -/
def stateCode : SeqState → Nat
  | .stopped => 0
  | .waiting => 1
  | .delaying => 2
  | .held => 3
  | .exposing => 4
  | .settling => 5
  | .paused => 6

/-- The codes of the session states (10.3). -/
def sessionCode : SessionKind → Nat
  | .none => 0
  | .load => 1
  | .read => 2
  | .desync => 3

/-- The code of the hold reason that is shown, which is NONE in every state but HELD (R23, 10.3). -/
def shownHold (s : State) : Nat :=
  match s.seq.state, s.seq.hold with
  | .held, .recordSpace => 1
  | .held, .credit => 2
  | _, _ => 0

/-- What an erase attempt of a slot's sector does to the array (R152): a sector that verifies blank reads erased, a header
that fails its verify does not, and only the sector in hand changes. -/
abbrev erasesSector (slot : Fin 6) (sector : Nat) (verified : Bool) (s t : State) : Prop :=
  (∀ j : Fin 6, (j ≠ slot ∨ sector ≠ 0) → t.store.array.headers[j] = s.store.array.headers[j]) ∧
  t.store.array.startups = s.store.array.startups ∧
  (∀ a : Nat, (sector = 0 ∨ a < imageBase slot sector ∨ imageBase slot sector + 512 ≤ a) →
    t.store.array.images.read a = s.store.array.images.read a) ∧
  (verified = true → sector = 0 → t.store.array.headers[slot] = .blank) ∧
  (verified = false → sector = 0 → (t.store.array.headers[slot]).condition ≠ .blank) ∧
  (verified = true → sector ≠ 0 → ∀ k, k < 512 →
    t.store.array.images.read (imageBase slot sector + k) = Config.erased)

/-- A reading that has taken a slot's header and the image words matches (R156; the commit word by log 10): the header is a
committed body, its check value matches the words, no area was marked, and as many areas made their entries defined as the
body declares. -/
abbrev readingMatches (p : LoadProgress) (words : List Word) : Prop :=
  ∃ w, p.header = .written w ∧ (HeaderSector.written w).condition = .committed ∧ w.matchesImage words = true ∧
    p.mismatch = false ∧ p.definedAreas = w.definedSteps.toNat

/-- A slot holds a bank saved under a label and a generation: a committed header whose check value matches, and the bank's
image (R145, R154). -/
abbrev holdsBank (slot : Fin 6) (b : Bank) (label : Word) (g : BitVec 32) (s : State) : Prop :=
  s.store.array.headers[slot] =
    .written { headerBody b label g with check := some (slotCheck b label g), commit := Config.commitWord } ∧
  s.store.array.images.slice (4096 * slot.val) 4096 = imageWords b

/-- An erase attempt of a slot's sector is in flight, of a SAVE or of an ERASE (R154, R157). -/
abbrev erasing (slot : Fin 6) (sector : Nat) (s : State) : Prop :=
  (∃ failed, s.store.job = .erase slot sector failed) ∨
  ∃ source bank label g failed, s.store.job = .save slot source bank label g (.erasing sector failed)

/-! ### Safe states -/

/-- A channel within its ranges (R77, R83, R85, R86), dark unless enabled and unlocked (R74), and lit at a level from 1
(R76). -/
def Channel.safe (ch : Channel) : Prop :=
  1 ≤ ch.trim.toNat ∧ ch.trim.toNat ≤ 256 ∧ 1 ≤ ch.ceiling.toNat ∧ ch.rate.toNat ≤ 4095 ∧
  ch.credit.toNat ≤ ch.ceiling.toNat ∧
  (ch.gate.isSome = true → ch.enabled = true ∧ ch.locked = false) ∧
  (∀ g ∈ ch.gate, g.level ≠ 0)

/-- Every channel is safe, and outside reset an asserted fault line has its channel locked (R96, R100). -/
def channelsSafe (s : State) : Prop :=
  ∀ i : Fin 8, (s.channels.channel[i]).safe ∧
    (s.inReset = false → (s.channels.channel[i]).faultLine = true → (s.channels.channel[i]).locked = true)

/-- HELD and its hold reason and timer agree (R23, R44). -/
def holdSafe (s : State) : Prop :=
  (s.seq.state = .held ↔ s.seq.hold ≠ .none) ∧ (s.seq.state ≠ .held → s.seq.holdTimer = none)

/-- EXPOSING is the state in which a gate is open (R37, R38); step pulses run in EXPOSING and SETTLING only; the gap runs in
SETTLING, and none of them is left when it starts (R39, R105). -/
def exposureSafe (s : State) : Prop :=
  (s.seq.state = .exposing ↔ openGates s ≠ 0) ∧
  (s.seq.state = .exposing ∨ s.seq.state = .settling → s.seq.context.isSome = true) ∧
  (stepPulses s = true → s.seq.state = .exposing ∨ s.seq.state = .settling) ∧
  (∀ c ∈ s.seq.context, c.gapStart.isSome = true → s.seq.state = .settling ∧ stepPulses s = false)

/-- The Trigger Queue's bound (R65), and its emptiness while STOPPED and in MANUAL mode (R63, R69). -/
def triggersSafe (s : State) : Prop :=
  s.triggers.queue.length ≤ 8 ∧ (s.seq.state = .stopped ∨ s.seq.mode = .manual → s.triggers.queue = [])

/-- The unused bits of STATUS_FLAGS and IRQ_ENABLE are 0 (R181, 10.3). -/
def flagsSafe (s : State) : Prop :=
  s.status.flags &&& ~~~flagBits = 0 ∧ s.status.irqEnable &&& ~~~enableBits = 0

/-- The images of the Recipe Store are in canonical form. -/
def memorySafe (s : State) : Prop := Memory.wf s.store.array.images

/-- The two bounds of the records (R118, R124). -/
def recordsSafe (s : State) : Prop :=
  placesTaken s ≤ 32 ∧ 1 ≤ s.records.threshold.toNat ∧ s.records.threshold.toNat ≤ 32

/-- A step that is begun (R24): DELAYING, EXPOSING, SETTLING, and HELD for credit. -/
abbrev begunState (q : Sequencer) : Prop :=
  q.state = .delaying ∨ q.state = .exposing ∨ q.state = .settling ∨ (q.state = .held ∧ q.hold = .credit)

/-- The step in progress: it is present outside STOPPED and PAUSED, it is that of the cursor, and the Record Unit holds a
place or a request for it (R24, R25, R31, R118, R120). -/
def stepSafe (s : State) : Prop :=
  match s.seq.context with
  | none =>
    (s.seq.state = .stopped ∨ s.seq.state = .paused) ∧ s.records.reserved = false ∧ s.records.waitingRequest = false
  | some c =>
    s.seq.state ≠ .stopped ∧ s.seq.state ≠ .paused ∧
    c.position = s.seq.position ∧ c.repetition = s.seq.repetition ∧
    atCursor s = some (c.entry, c.record) ∧
    (c.begun = true ↔ begunState s.seq) ∧
    (s.records.waitingRequest = true ↔ s.seq.state = .held ∧ s.seq.hold = .recordSpace) ∧
    (s.records.reserved = true ↔ s.policy.recordPolicy = .hold ∧ s.records.waitingRequest = false)

/-- The cursor is in the active Order List and in the repeat count of its entry (R25). -/
def cursorSafe (s : State) : Prop :=
  1 ≤ s.seq.repetition ∧
  ((activeBank s).order ≠ [] →
    ∃ e, (activeBank s).order[s.seq.position]? = some e ∧ s.seq.repetition ≤ e.count)

/-- The active bank is empty or passes validation (R9), and is not empty while a run is on (R28); a pending commit is of a
staging bank that passes (R14 to R18). -/
def banksSafe (s : State) : Prop :=
  ((activeBank s).order = [] ∨ (activeBank s).validate = none) ∧
  (s.seq.state ≠ .stopped → (activeBank s).order ≠ []) ∧
  (s.tables.commitPending = true →
    (stagingBank s).validate = none ∧ s.seq.state ≠ .stopped ∧ s.tables.incomplete = false ∧
    loadSession s = false ∧ loadInFlight s = false) ∧
  (loadInFlight s = true → s.tables.incomplete = true)

/-- What BOOTING and hardware reset exclude (R163, R185). -/
def bootSafe (s : State) : Prop :=
  booting s = true ∨ s.inReset = true →
    s.seq.state = .stopped ∧ s.port.kind = .none ∧ s.store.job = .idle ∧ s.tables.commitPending = false

/-- A bank whose defined steps and order are within R2 to R7. -/
def Bank.wf (b : Bank) : Prop := (∀ i : Fin 128, ∀ r ∈ b.steps[i], r.wf = true) ∧ b.order.length ≤ 512

/-- The banks are well-formed, and the port's session is within its tables (R128). -/
def tablesSafe (s : State) : Prop :=
  s.tables.bankA.wf ∧ s.tables.bankB.wf ∧ s.port.next ≤ 512 ∧
  (s.port.kind = .load ∧ s.port.table = .order → s.port.next = s.port.start + s.port.written)

/-- The slot that an operation in flight writes. -/
def writtenSlot : StoreJob → Option (Fin 6)
  | .save slot _ _ _ _ _ => some slot
  | .erase slot _ _ => some slot
  | .load _ => none
  | .setStartup _ _ _ _ => none
  | .idle => none

/-- A slot is WRITING while a SAVE or an ERASE of it is in flight (R147), and an abort is pending only while an operation
is in flight (R151). -/
def storeSafe (s : State) : Prop :=
  (∀ i : Fin 6, (s.store.directory[i]).state = .writing ↔ writtenSlot s.store.job = some i) ∧
  (s.store.job = .idle → s.store.abortPending = false ∧ s.store.quiet = false) ∧
  (booting s = true ∨ s.inReset = true → s.store.job = .idle)

/-- The relations that every record satisfies (the list at the end of R117). -/
def ShotRecord.consistent (r : ShotRecord) : Prop :=
  r.lit &&& r.skipped = 0 ∧ r.cut &&& ~~~r.lit = 0 ∧
  (r.exposed = false → r.lit = 0 ∧ r.cut = 0 ∧ r.lateness = 0 ∧ r.late = false ∧ r.syncCut = false) ∧
  (r.outcome = .done → r.exposed = true) ∧
  (r.outcome = .aborted → r.exposed = false ∧ r.creditShort = true) ∧
  (r.late = true → r.lateness ≠ 0)

/-- A step in EXPOSING or SETTLING has its exposure start, an exposed step's masks agree with each other and with the open
gates, and nothing is cut before (R37, R82, R89, R97). -/
def contextConsistent (s : State) : Prop :=
  ∀ c ∈ s.seq.context,
    (c.exposureStart.isSome = true ↔ s.seq.state = .exposing ∨ s.seq.state = .settling) ∧
    (c.exposureStart.isSome = true →
      c.lit &&& c.skipped = 0 ∧ c.cut &&& ~~~c.lit = 0 ∧ openGates s &&& ~~~c.lit = 0 ∧
      (c.late = true → c.lateness ≠ 0)) ∧
    (c.exposureStart = none → c.cut = 0)

/-- Every record in the queue, and the step that will make the next one, are consistent. -/
def recordsConsistent (s : State) : Prop := (∀ r ∈ s.records.queue, r.consistent) ∧ contextConsistent s

/-- The agreements between the Sequencer, the Record Unit, Table Memory, the Table Port and the Store Controller. -/
def runSafe (s : State) : Prop :=
  holdSafe s ∧ recordsSafe s ∧ stepSafe s ∧ cursorSafe s ∧ banksSafe s ∧ bootSafe s

/-- A safe state. -/
def Inv (s : State) : Prop :=
  channelsSafe s ∧ exposureSafe s ∧ triggersSafe s ∧ flagsSafe s ∧ memorySafe s ∧ tablesSafe s ∧ storeSafe s ∧ runSafe s ∧
  recordsConsistent s

end Sys2Proof.Machine
end

