-- ==== Sys2Proof/WellFormed.lean ====
section
/-! DEFINITION. Which terms of Instr are rows of the table with operands in range. The operands' types give every
range but three, which are checked here. -/
namespace Sys2Proof

/-- The addresses whose writes have rows of their own: COMMAND, STATUS_FLAGS, IRQ_ENABLE, TP_DATA, POLICY, CH_ENABLE,
CH_CEILING, SYNC_CONFIG, REC_THRESHOLD (10.2). REGISTER_WRITE is a write to any other address. -/
def dedicatedAddresses : List (BitVec 6) := [0x02, 0x09, 0x0A, 0x10, 0x19, 0x1A, 0x1E, 0x21, 0x23]

/-- A well-formed command: a REGISTER_WRITE is to an address that has no row of its own, an UNKNOWN_COMMAND's code is
not in the command table, and a STORED_WORD_CHANGE changes at least one bit. -/
def Instr.wf : Instr → Bool
  | .registerWrite addr _ => !dedicatedAddresses.contains addr
  | .unknownCommand code => !knownCode code
  | .storedWordChange _ flip => flip != 0
  | .run | .stop | .pause | .resume | .step | .softTrigger | .commit | .cancelCommit | .copyActive
  | .clearStaging | .openLoad | .openRead | .closePort | .unlockChannel | .pulseSync | .flushRecords
  | .clearCounters | .save | .load | .erase | .setStartup | .abortStore | .softReset | .tscLoRead
  | .rec9Read | .tpDataWrite _ | .tpDataRead | .statusFlagsWrite _ | .chEnableWrite _ | .syncConfigWrite _
  | .chCeilingWrite _ | .policyWrite _ | .recThresholdWrite _ | .irqEnableWrite _ | .triggerEdge _ _
  | .faultAssert _ | .faultLineFall _ | .hardwareReset | .resetEnd | .millisecondEvent | .holdTimerExpiry
  | .dueInstant | .gateWidthEnd _ | .syncStart _ | .syncEnd _ | .gapEnd | .holdoffWindowClose _
  | .eraseAttemptDone _ | .programStepDone _ | .sectorReadDone => true

end Sys2Proof
end

