-- ==== Sys2Proof/Certificates/Slice0/Obligations.lean ====
section
/-! DEFINITION. The statements for the provers. A statement about a command gives its next state as the state before with
the fields that change, so that what is not named is unchanged. -/

open Sys2Proof Sys2Proof.Machine

/-! ### The step of the block -/

/-- The block takes the command at the front of its queue and executes it with the queue's rest. -/
def Obligations.StepTakesFrontCommand : Prop :=
  ∀ (c : Instr) (rest : List Instr) (s : State), step { s with pending := c :: rest } = exec c { s with pending := rest }

/-- The step on an empty queue (the model's choice, log 1). With no timed event due it is one microsecond of the timebase: the
TSC counts modulo 2³² (R55), and the millisecond event becomes due at each 1000th count (R57). With timed events due it
puts every one of them in the queue, each as often as it is due and no other, in a free order (log 2), and no time
passes, so that a gap ends when it has run (R39); but in a run without end that takes no time, which has completed a whole
pass and a free number of steps beyond it within this microsecond and in which only the next gap's end is due, a
microsecond passes first (the model's choice, log 15), so that no state of the Sequencer stops the TSC or the divider (R55,
R57). -/
def Obligations.IdleStepLetsTimePass : Prop :=
  (∀ s : State, s.pending = [] → s.inReset = false →
      (dueEvents s = [] ∨ (dueEvents s = [.gapEnd] ∧ endlessInNoTime s ∧
        ((activeBank s).order.map fun e => e.repeatLess1.val + 1).sum + Config.freeSteps s.timebase.tsc.toNat ≤
          s.timebase.completions)) →
      step s = .next { s with timebase :=
        { s.timebase with
            tsc := s.timebase.tsc + 1
            divider := if s.timebase.divider = 999 then 0 else s.timebase.divider + 1
            msDue := s.timebase.divider = 999 || s.timebase.msDue
            completions := 0 } }) ∧
  (∀ s : State, s.pending = [] → s.inReset = false → dueEvents s ≠ [] →
      (dueEvents s = [.gapEnd] → endlessInNoTime s → s.timebase.completions <
        ((activeBank s).order.map fun e => e.repeatLess1.val + 1).sum + Config.freeSteps s.timebase.tsc.toNat) →
      ∃ p : List Instr, p.Perm (dueEvents s) ∧
        step s = .next { s with
          pending := p
          freeCount := s.freeCount + 1
          timebase := { s.timebase with
            completions := s.timebase.completions + (if .gapEnd ∈ dueEvents s then 1 else 0) } })

/-- Which timed events are due: a holdoff window's close, the millisecond event, the hold timer's expiry, the due instant,
a gate's end, a pulse's start and end, and the gap's end, each when its time has come (R35, R39, R44, R57, R59, R81, R106).
That they are delivered so is the model's choice (log 1, log 3). A time that was fixed for the future has come when the time
elapsed since it, modulo 2³², is less than 2³¹ µs (the model's choice, DEDUCED in log 19).
The marker that the due instant has come is the model's (DEDUCED, log 12). -/
def Obligations.DueEventsAreThoseWhoseTimeHasCome : Prop :=
  (∀ now t : Time, hasCome now t = true ↔ (now - t).toNat < 2147483648) ∧
  ∀ s : State,
    (∀ i, .holdoffWindowClose i ∈ dueEvents s ↔
      ∃ t, (s.triggers.inputs[i]).window = some t ∧ hasCome s.timebase.tsc t = true) ∧
    (.millisecondEvent ∈ dueEvents s ↔ s.timebase.msDue = true) ∧
    (.holdTimerExpiry ∈ dueEvents s ↔ s.seq.state = .held ∧
      (s.seq.holdTimer = some 0 ∨ (s.seq.holdTimer = some 1 ∧ s.timebase.msDue = true))) ∧
    (.dueInstant ∈ dueEvents s ↔ s.seq.state = .delaying ∧ ∃ c, s.seq.context = some c ∧ c.dueReached = false ∧
      c.record.delay.toNat ≤ (s.timebase.tsc - c.reference).toNat) ∧
    (∀ n, .gateWidthEnd n ∈ dueEvents s ↔
      ∃ g, (s.channels.channel[n]).gate = some g ∧ hasCome s.timebase.tsc g.closing = true) ∧
    (∀ i, .syncStart i ∈ dueEvents s ↔
      ∃ start finish, (s.syncs[i]).pulse = .scheduled start finish ∧ hasCome s.timebase.tsc start = true) ∧
    (∀ i, .syncEnd i ∈ dueEvents s ↔
      ∃ kind finish, (s.syncs[i]).pulse = .active kind finish ∧ hasCome s.timebase.tsc finish = true) ∧
    (.gapEnd ∈ dueEvents s ↔ s.seq.state = .settling ∧ ∃ c g, s.seq.context = some c ∧ c.gapStart = some g ∧
      c.record.gap.toNat ≤ (s.timebase.tsc - g).toNat)

/-- While the part is BOOTING, every known command is refused with BOOTING and changes nothing but the last command code,
CMD_RESULT and CMD_DETAIL; an unknown code is UNKNOWN_COMMAND in every state out of reset (R163, R167, R168). Every
command's code is taken as that command, and an unknown code as an UNKNOWN_COMMAND. -/
def Obligations.CommandsDuringBoot : Prop :=
  (∀ (c : Instr) (code : Word) (s : State), c ∈ codedCommands → commandCode c = some code → s.inReset = false →
    booting s = true → exec c s = .next { s with cmd := { s.cmd with last := code, result := .booting, detail := 0 } }) ∧
  (∀ (code : Word) (s : State), knownCode code = false → s.inReset = false →
    exec (.unknownCommand code) s =
      .next { s with cmd := { s.cmd with last := code, result := .unknownCommand, detail := 0 } }) ∧
  (∀ (c : Instr) (code : Word), c.wf = true → commandCode c = some code → commandOfCode code = c)

/-- While RSTn is asserted every bus access leaves the part as it is: writes and commands are ignored, reads return 0 and
have no effect; IRQn is released, gates are inactive with level 0, and the sync pins are low (R185). -/
def Obligations.HardwareResetSilencesTheBus : Prop :=
  (∀ (c : Instr) (s : State), s.inReset = true → (c ∈ codedCommands ∨ busAccess c = true) →
    exec c s = .next { s with readData := if c = .tscLoRead ∨ c = .rec9Read ∨ c = .tpDataRead then 0 else s.readData }) ∧
  (∀ s : State, s.inReset = true → irqAsserted s = false ∧ (∀ addr, readRegister addr s = 0) ∧
    (∀ n, gatePin n s = false ∧ levelPin n s = 0) ∧ (∀ i, syncPin i s = false))

/-! ### Program tables (01) -/

/-- Validation passes exactly when the Order List is not empty and every position's entry names a defined step (R12); when
it fails, the detail is 0xFFFF for an empty list, or else the lowest position whose entry names an UNDEFINED step
(R13). -/
def Obligations.ValidationExamines : Prop :=
  ∀ b : Bank,
    (b.validate = none ↔ b.order ≠ [] ∧ ∀ e ∈ b.order, (b.steps[e.step]).isSome = true) ∧
    (b.order = [] → b.validate = some 0xFFFF) ∧
    (∀ (n : Nat) (e : OrderEntry), b.order[n]? = some e → (b.steps[e.step]).isNone = true →
      (∀ (m : Nat) (f : OrderEntry), m < n → b.order[m]? = some f → (b.steps[f.step]).isSome = true) →
      b.validate = some (word n))

/-- COMMIT in STOPPED, with nothing to refuse it, swaps at once: the roles are exchanged with both banks' contents as they
were, the cursor is 0/1, COMMIT_TAKEN is set, and an open read session ends with SESSION_ENDED (R14, R15, R16, R142). That the
start index of a session that has ended is 0 is the model's choice (log 24). -/
def Obligations.CommitSwapsInStopped : Prop :=
  ∀ s : State, commandable s → saveInFlight s = false → loadInFlight s = false → loadSession s = false →
    s.tables.commitPending = false → s.tables.incomplete = false → (stagingBank s).validate = none →
    s.seq.state = .stopped →
    ∃ t, exec .commit s = .next t ∧
      t.tables = { s.tables with active := s.tables.active.other } ∧
      t.seq = { s.seq with position := 0, repetition := 1 } ∧
      t.cmd = { s.cmd with last := 0x10, result := .accepted, detail := 0 } ∧
      t.port = (if s.port.kind = .read then
          { s.port with kind := .none, table := .steps, bank := .active, start := 0, assembly := [], written := 0,
                        beyond := [], tableFull := false, lastError := .sessionEnded, errorIndex := word s.port.next }
        else s.port) ∧
      t.status.flags = (if s.port.kind = .read then s.status.flags ||| portErrorFlag ||| commitTakenFlag
        else s.status.flags ||| commitTakenFlag) ∧
      t = { s with tables := t.tables, seq := t.seq, cmd := t.cmd, port := t.port
                   status := { s.status with flags := t.status.flags } }

/-- COMMIT in any other state of the Sequencer makes the commit pending and does nothing else; CANCEL_COMMIT of a pending
commit clears the marker and does nothing else, and with none pending it is refused WRONG_STATE (R15, R18). COMMIT is refused
for the first of its five reasons that applies, and a refused COMMIT changes nothing but the last command code, CMD_RESULT
and CMD_DETAIL (R14, R13). -/
def Obligations.CommitPendsOrIsRefusedOrWithdrawn : Prop :=
  (∀ s : State, commandable s → saveInFlight s = false → loadInFlight s = false → loadSession s = false →
    s.tables.commitPending = false → s.tables.incomplete = false → (stagingBank s).validate = none →
    s.seq.state ≠ .stopped →
    exec .commit s = .next { s with tables := { s.tables with commitPending := true }
                                    cmd := { s.cmd with last := 0x10, result := .accepted, detail := 0 } }) ∧
  (∀ s : State, commandable s → s.tables.commitPending = true →
    exec .cancelCommit s = .next { s with tables := { s.tables with commitPending := false }
                                          cmd := { s.cmd with last := 0x11, result := .accepted, detail := 0 } }) ∧
  (∀ s : State, commandable s → s.tables.commitPending = false →
    exec .cancelCommit s = .next { s with cmd := { s.cmd with last := 0x11, result := .wrongState, detail := 0 } }) ∧
  (∀ (s : State) (r : ResultCode) (d : Word), commandable s →
    (if saveInFlight s = true ∨ loadInFlight s = true then r = .storeBusy ∧ d = 0
      else if s.port.kind = .load ∨ s.port.kind = .desync then r = .portOpen ∧ d = 0
      else if s.tables.commitPending = true then r = .commitPending ∧ d = 0
      else if s.tables.incomplete = true then r = .stagingIncomplete ∧ d = 0
      else r = .validationFailed ∧ (stagingBank s).validate = some d) →
    exec .commit s = .next { s with cmd := { s.cmd with last := 0x10, result := r, detail := d } })

/-- COPY_ACTIVE and CLEAR_STAGING, when nothing refuses them, replace the staging bank by the active bank's contents, or by
an empty bank, clear INCOMPLETE, end a read session on the staging bank with SESSION_ENDED, and leave the active bank,
the roles, the cursor and the Sequencer as they are (R19, R20). They are refused with COMMIT_PENDING, PORT_OPEN for a load
session, or STORE_BUSY for a SAVE or a LOAD in flight, the first that applies; and a refused one changes nothing but the last
command code, CMD_RESULT and CMD_DETAIL. -/
def Obligations.StagingReplaced : Prop :=
  (∀ (s : State) (c : Instr) (r : ResultCode), commandable s → (c = .copyActive ∨ c = .clearStaging) →
    (if s.tables.commitPending = true then r = .commitPending
      else if s.port.kind = .load ∨ s.port.kind = .desync then r = .portOpen
      else r = .storeBusy ∧ (saveInFlight s = true ∨ loadInFlight s = true)) →
    exec c s = .next { s with
      cmd := { s.cmd with last := if c = .copyActive then 0x12 else 0x13, result := r, detail := 0 } }) ∧
  ∀ (s : State) (c : Instr), commandable s → s.tables.commitPending = false → loadSession s = false →
    saveInFlight s = false → loadInFlight s = false → (c = .copyActive ∨ c = .clearStaging) →
    ∃ t, exec c s = .next t ∧
      t.tables.active = s.tables.active ∧ activeBank t = activeBank s ∧
      stagingBank t = (if c = .copyActive then activeBank s else Bank.empty) ∧
      t.tables.commitPending = false ∧ t.tables.incomplete = false ∧
      t.cmd = { s.cmd with last := if c = .copyActive then 0x12 else 0x13, result := .accepted, detail := 0 } ∧
      (if s.port.kind = .read ∧ s.port.bank = .staging then
        t.port.kind = .none ∧ t.port.lastError = .sessionEnded ∧ t.port.errorIndex = word s.port.next ∧
          t.port.next = s.port.next ∧ t.port.wordPos = s.port.wordPos ∧ t.port.assembly = [] ∧ t.port.written = 0 ∧
          t.port.beyond = [] ∧ t.port.tableFull = false ∧ t.status.flags = s.status.flags ||| portErrorFlag
      else t.port = s.port ∧ t.status.flags = s.status.flags) ∧
      t = { s with tables := t.tables, cmd := t.cmd, port := t.port, status := { s.status with flags := t.status.flags } }

/-! ### The Sequencer (02) -/

/-- An accepted RUN writes the run mode and the passes, with start BEGIN zeroes the cursor, the pass count and the sequence
number, sets the stop reason to NONE, clears the pause request, flushes the Trigger Queue, and makes the entry at the
cursor. It is refused BAD_ARGUMENT, then WRONG_STATE, then EMPTY_PROGRAM, for the first that applies, and a refused RUN
changes nothing but the last command code, CMD_RESULT and CMD_DETAIL (R28, R29, R167). -/
def Obligations.RunStartsOrIsRefused : Prop :=
  (∀ (s : State) (mode : RunMode), commandable s → s.seq.state = .stopped → (activeBank s).order ≠ [] →
      mode.code = (s.cmd.arg[0]).toNat → (mode = .passes → s.cmd.arg[1] ≠ 0) → (s.cmd.arg[2]).toNat ≤ 1 →
      exec .run s = .next (makeEntry
        { s with
            cmd := { s.cmd with last := 0x01, result := .accepted, detail := 0 }
            triggers := { s.triggers with queue := [] }
            seq := { s.seq with
              mode := mode
              passesRequested := if mode = .passes then s.cmd.arg[1] else if mode = .onePass then 1
                else s.seq.passesRequested
              passesTaken := 0
              stopReason := .none
              pauseRequest := false
              position := if s.cmd.arg[2] = 0 then 0 else s.seq.position
              repetition := if s.cmd.arg[2] = 0 then 1 else s.seq.repetition
              passCount := if s.cmd.arg[2] = 0 then 0 else s.seq.passCount
              sequence := if s.cmd.arg[2] = 0 then 0 else s.seq.sequence } })) ∧
  (∀ (s : State) (r : ResultCode), commandable s →
      (if 3 < (s.cmd.arg[0]).toNat ∨ 1 < (s.cmd.arg[2]).toNat ∨ (s.cmd.arg[0] = 1 ∧ s.cmd.arg[1] = 0) then r = .badArgument
        else if s.seq.state ≠ .stopped then r = .wrongState
        else r = .emptyProgram ∧ (activeBank s).order = []) →
      exec .run s = .next { s with cmd := { s.cmd with last := 0x01, result := r, detail := 0 } })

/-- An accepted RESUME makes the entry at the cursor with the run as it was, and leaves the Trigger Queue; outside PAUSED
RESUME is refused WRONG_STATE (R51). With an IMMEDIATE step at the cursor whose delay is not 0, a free place or record
policy DROP, and a mode other than MANUAL, the step is begun: DELAYING, source NONE, referred to now; with a delay of
0 its due instant has come as it is begun, and the effect is that of DUE_INSTANT on the step so begun (R31, R33, R35). -/
def Obligations.ResumeMakesEntry : Prop :=
  (∀ s : State, commandable s → s.seq.state = .paused →
    exec .resume s = .next (makeEntry { s with cmd := { s.cmd with last := 0x04, result := .accepted, detail := 0 } })) ∧
  (∀ s : State, commandable s → s.seq.state ≠ .paused →
    exec .resume s = .next { s with cmd := { s.cmd with last := 0x04, result := .wrongState, detail := 0 } }) ∧
  (∀ (s : State) (e : OrderEntry) (r : StepRecord), atCursor s = some (e, r) → r.advance = .immediate → r.delay ≠ 0 →
    s.seq.mode ≠ .manual → (s.policy.recordPolicy = .hold → placesTaken s < 32) →
    makeEntry s = { s with
      records := { s.records with
        reserved := if s.policy.recordPolicy = .hold then true else s.records.reserved }
      seq := { s.seq with
        state := .delaying
        hold := .none
        holdTimer := none
        context := some { freshContext s e r with
          begun := true
          reference := s.timebase.tsc
          due := s.timebase.tsc + r.delay.setWidth 32 } } }) ∧
  (∀ (s : State) (e : OrderEntry) (r : StepRecord), s.inReset = false → atCursor s = some (e, r) →
    r.advance = .immediate → r.delay = 0 → s.seq.mode ≠ .manual → (s.policy.recordPolicy = .hold → placesTaken s < 32) →
    Host.Outcome.next (makeEntry s) = exec .dueInstant { s with
      records := { s.records with
        reserved := if s.policy.recordPolicy = .hold then true else s.records.reserved }
      seq := { s.seq with
        state := .delaying
        hold := .none
        holdTimer := none
        context := some { freshContext s e r with
          begun := true
          reference := s.timebase.tsc
          due := s.timebase.tsc } } })

/-- An entry by the record policy: under HOLD a place is reserved for it, or, with no place free, the Sequencer enters HELD for
RECORD_SPACE with the HELD flag and the hold timer from HOLD_TIMEOUT. With a place, and under DROP, the step enters WAITING: in
MANUAL mode, and for a TRIGGER step that no queued entry matches, it stays there, not begun; an IMMEDIATE step is begun, and a
TRIGGER step with a match queued is served and begun at once (R31, R33, R34, R35, R44, R67, R120).
The marker that the due instant has come is the model's (DEDUCED, log 12). -/
def Obligations.EntryWaitsOrHolds : Prop :=
  ∀ (s : State) (e : OrderEntry) (r : StepRecord), atCursor s = some (e, r) →
    (s.policy.recordPolicy = .hold → 32 ≤ placesTaken s →
      makeEntry s = { s with
        records := { s.records with waitingRequest := true }
        status := { s.status with flags := s.status.flags ||| heldFlag }
        seq := { s.seq with
          state := .held
          hold := .recordSpace
          holdTimer := if s.seq.holdTimeout = 0 then none else some s.seq.holdTimeout.toNat
          context := some (freshContext s e r) } }) ∧
    ((s.policy.recordPolicy = .hold → placesTaken s < 32) →
      entersWaiting (freshContext s e r)
        { s with
          records := { s.records with
            reserved := if s.policy.recordPolicy = .hold then true else s.records.reserved }
          seq := { s.seq with context := some (freshContext s e r) } }
        (makeEntry s))

/-- The serve of a TRIGGER step takes the oldest entry whose source is in the mask: the entries ahead of it are discarded
and counted as STRAY, those behind it stay, and the step is begun with the entry's source and, as its reference, the
entry's timestamp (R67, R70). However a step is begun, its source, MANUAL marker and reference are fixed, its due instant is
the reference plus the delay, and it is DELAYING: when the time elapsed since the reference is at least the delay, its due
instant has come and the effect is that of DUE_INSTANT on it, else it waits (R35).
The marker that the due instant has come is the model's (DEDUCED, log 12). -/
def Obligations.ServeTakesOldestMatch : Prop :=
  (∀ (s : State) (mask : SourceMask) (c : StepContext) (strays rest : List Arrival) (a : Arrival),
    s.triggers.queue = strays ++ a :: rest → (∀ x ∈ strays, accepts mask x.source = false) →
    accepts mask a.source = true →
    serve mask c s = beginStep (some a.source) false a.time c
      { s with
          triggers := { s.triggers with queue := rest }
          counters := { s.counters with
            value := s.counters.value.set 2 (word (min 65535 ((s.counters.value[2]).toNat + strays.length))) } }) ∧
  (∀ (s : State) (source : Option Source) (manual : Bool) (reference : Time) (c : StepContext), s.inReset = false →
    (c.record.delay.toNat ≤ (s.timebase.tsc - reference).toNat →
      Host.Outcome.next (beginStep source manual reference c s) = exec .dueInstant { s with
        seq := { s.seq with
          state := .delaying
          context := some { c with
            begun := true
            source := source
            manual := manual
            reference := reference
            due := reference + c.record.delay.setWidth 32 } } }) ∧
    ((s.timebase.tsc - reference).toNat < c.record.delay.toNat →
      beginStep source manual reference c s = { s with
        seq := { s.seq with
          state := .delaying
          context := some { c with
            begun := true
            source := source
            manual := manual
            reference := reference
            due := reference + c.record.delay.setWidth 32
            dueReached := false } } }))

/-- STEP in MANUAL mode takes the advance of the waiting step: it is begun, MANUAL and without a source, referred to now,
and with a delay that is not 0 it waits in DELAYING for the reference plus the delay, while with a delay of 0 the effect is
that of DUE_INSTANT on the step so begun; in every other mode or state STEP is refused WRONG_STATE (R34, R35).
The marker that the due instant has come is the model's (DEDUCED, log 12). -/
def Obligations.StepTakesAdvance : Prop :=
  (∀ (s : State) (c : StepContext), commandable s → s.seq.mode = .manual → s.seq.state = .waiting →
    s.seq.context = some c → c.record.delay ≠ 0 →
    exec .step s = .next { s with
      cmd := { s.cmd with last := 0x05, result := .accepted, detail := 0 }
      seq := { s.seq with
        state := .delaying
        context := some { c with
          begun := true
          source := none
          manual := true
          reference := s.timebase.tsc
          due := s.timebase.tsc + c.record.delay.setWidth 32
          dueReached := false } } }) ∧
  (∀ (s : State) (c : StepContext), commandable s → s.seq.mode = .manual → s.seq.state = .waiting →
    s.seq.context = some c → c.record.delay = 0 →
    exec .step s = exec .dueInstant { s with
      cmd := { s.cmd with last := 0x05, result := .accepted, detail := 0 }
      seq := { s.seq with
        state := .delaying
        context := some { c with
          begun := true
          source := none
          manual := true
          reference := s.timebase.tsc
          due := s.timebase.tsc } } }) ∧
  (∀ s : State, commandable s → ¬(s.seq.mode = .manual ∧ s.seq.state = .waiting) →
    exec .step s = .next { s with cmd := { s.cmd with last := 0x05, result := .wrongState, detail := 0 } })

/-- The due instant, with no manual pulse ACTIVE, and guard policy SKIP or no entry of the step short of credit, starts the
exposure (R36, R37, R91, R92): the lit channels are the satisfied ones, each debited its cost and opened at its effective
level for its width (R80, R89), and CREDIT_SHORT is raised once when an entry is short or unsatisfiable (R90); the
lateness and LATE are those of R37 and R71, and every other field of the step stays; each sync entry is placed, ACTIVE for
delay 0, else SCHEDULED (R105); and the Sequencer is EXPOSING, or, with nothing lit, SETTLING, where the gap starts at once
when the step has no sync entry (R39). With a manual pulse ACTIVE the step stays in DELAYING: that its due instant has come is
noted (log 12), and nothing else happens (R36, R109). -/
def Obligations.DueInstantStartsExposure : Prop :=
  (∀ (s : State) (c : StepContext) (i : Fin 4) (finish : Time), s.inReset = false → s.seq.state = .delaying →
    s.seq.context = some c → c.record.delay.toNat ≤ (s.timebase.tsc - c.reference).toNat →
    (s.syncs[i]).pulse = .active .manual finish →
    exec .dueInstant s = .next { s with seq := { s.seq with context := some { c with dueReached := true } } }) ∧
  ∀ (s : State) (c : StepContext), s.inReset = false → s.seq.state = .delaying → s.seq.context = some c →
    c.record.wf = true → c.record.delay.toNat ≤ (s.timebase.tsc - c.reference).toNat → manualPulses s = false →
    stepPulses s = false →
    (s.policy.guardPolicy = .skip ∨ ∀ e ∈ c.record.channels, skippedEntry s c e ∨ satisfiedEntry s c e) →
    ∃ t d, exec .dueInstant s = .next t ∧ exposureStarts { c with dueReached := true } d s t

/-- A satisfiable entry short of credit at the due instant: under guard policy HOLD the step is HELD for CREDIT with nothing
debited and nothing lit; under ABORT the run stops with CREDIT_ABORT, every credit as it was, and the step's record is
emitted ABORTED, not EXPOSED, with every channel of its list skipped; it is stored or lost by the record policy, and a
pending commit is made (R46). Either raises CREDIT_SHORT once: the flag and the counter (R36, R43, R89, R90, R92, R94). The
step that is held keeps the channels that this check skips: those OFF or LOCKED, and those whose ceiling is below the cost
(R88). That the due instant stays come is the model's DEDUCED marker (log 12), and that the start index of an ended read
session is 0 the model's choice (log 24). -/
def Obligations.ShortCreditHoldsOrAborts : Prop :=
  ∀ (s : State) (c : StepContext) (e : ChannelEntry), s.inReset = false → s.seq.state = .delaying →
    s.seq.context = some c → c.begun = true → c.exposureStart = none → c.creditShort = false → c.skipped = 0 →
    c.record.delay.toNat ≤ (s.timebase.tsc - c.reference).toNat → manualPulses s = false → e ∈ c.record.channels →
    (s.channels.channel[e.channel]).locked = false → (s.channels.channel[e.channel]).enabled = true →
    entryCost s e ≤ (s.channels.channel[e.channel]).ceiling.toNat →
    (s.channels.channel[e.channel]).credit.toNat < entryCost s e →
    (s.policy.guardPolicy = .hold → ∃ t, exec .dueInstant s = .next t ∧
      ∃ skipped : ChannelMask,
        (∀ i : Fin 8, inMask skipped i = true ↔ ∃ e ∈ c.record.channels, e.channel = i ∧ skippedEntry s c e) ∧
        t = { s with
        seq := { s.seq with
          state := .held
          hold := .credit
          holdTimer := if s.seq.holdTimeout = 0 then none else some s.seq.holdTimeout.toNat
          context := some { c with dueReached := true, creditShort := true, skipped := skipped } }
        counters := { s.counters with
          value := s.counters.value.set 8 (word (min 65535 ((s.counters.value[8]).toNat + 1))) }
        status := { s.status with flags := s.status.flags ||| creditShortFlag ||| heldFlag } }) ∧
    (s.policy.guardPolicy = .abort →
      ∃ a u t : State, exec .dueInstant s = .next t ∧
        a = { s with
          seq := { s.seq with context := some { c with dueReached := true, creditShort := true } }
          counters := { s.counters with
            value := s.counters.value.set 8 (word (min 65535 ((s.counters.value[8]).toNat + 1))) }
          status := { s.status with flags := s.status.flags ||| creditShortFlag } } ∧
        accountsForStep .aborted a u ∧ stopsFor .creditAbort u t ∧
        ((s.policy.recordPolicy = .hold ∨ s.records.queue.length < 32) →
          t.counters.value = s.counters.value.set 8 (word (min 65535 ((s.counters.value[8]).toNat + 1))) ∧
          ∃ r, t.records.queue = s.records.queue ++ [r] ∧ isRecordOf r .aborted { c with creditShort := true } s) ∧
        (∀ i : Fin 8, (t.channels.channel[i]).credit = (s.channels.channel[i]).credit))

/-- A step completes when its gap has run (R39, R40): its DONE record is handed over, into the reserved place under HOLD, stored
or lost under DROP, and the cursor advances (R41). With a repetition left the next repetition stands at the cursor; after the
last one, with a position left, the next position does. The Sequencer then makes the entry at the cursor; but it pauses, with
SEQ_PAUSED set and the request cleared, for a latched pause request, and after the last repetition of a HALT_AFTER entry
(R42, R49). -/
def Obligations.CompletionAdvancesCursor : Prop :=
  ∀ (s : State) (c : StepContext) (g : Time), s.inReset = false → s.seq.state = .settling → s.seq.context = some c →
    c.gapStart = some g → c.record.gap.toNat ≤ (s.timebase.tsc - g).toNat →
    (s.seq.repetition < c.entry.count →
      ∃ u : State,
        u = { recorded (shotRecord .done c s) s with
          seq := { s.seq with sequence := s.seq.sequence + 1, repetition := s.seq.repetition + 1, context := none } } ∧
        (s.seq.pauseRequest = false → exec .gapEnd s = .next (makeEntry u)) ∧
        (s.seq.pauseRequest = true → exec .gapEnd s = .next { u with
          status := { u.status with flags := u.status.flags ||| seqPausedFlag }
          seq := { u.seq with state := .paused, pauseRequest := false } })) ∧
    (c.entry.count ≤ s.seq.repetition → s.seq.position + 1 < (activeBank s).order.length →
      ∃ u : State,
        u = { recorded (shotRecord .done c s) s with
          seq := { s.seq with
            sequence := s.seq.sequence + 1
            position := s.seq.position + 1
            repetition := 1
            context := none } } ∧
        (c.entry.haltAfter = false → s.seq.pauseRequest = false → exec .gapEnd s = .next (makeEntry u)) ∧
        (c.entry.haltAfter = true ∨ s.seq.pauseRequest = true → exec .gapEnd s = .next { u with
          status := { u.status with flags := u.status.flags ||| seqPausedFlag }
          seq := { u.seq with state := .paused, pauseRequest := false } }))

/-- At a pass boundary the DONE record is handed over by the record policy, the pass is counted and PASS_END set, and
a pending commit is made, which ends a read session (R142), its start index then 0 (the model's choice, log 24). In
ONE_PASS mode, and in PASSES mode when the passes taken now equal those requested, the run then ends: STOPPED with
reason END, cursor 0/1, Trigger Queue flushed, SEQ_STOPPED set. In CONTINUOUS and MANUAL mode, and in PASSES mode
before that, the run goes on at 0/1 of the active program: PAUSED after a HALT_AFTER entry or with a pause request
latched, else with the next entry made (R30, R41, R42, R46, R15). -/
def Obligations.PassBoundaryEndsOnePassRun : Prop :=
  ∀ (s : State) (c : StepContext) (g : Time), s.inReset = false → s.seq.state = .settling → s.seq.context = some c →
    c.gapStart = some g → c.record.gap.toNat ≤ (s.timebase.tsc - g).toNat →
    c.entry.count ≤ s.seq.repetition → (activeBank s).order.length ≤ s.seq.position + 1 →
    ∃ b u : State,
      b = { recorded (shotRecord .done c s) s with
        status := { s.status with flags := (recorded (shotRecord .done c s) s).status.flags ||| passEndFlag }
        seq := { s.seq with
          passCount := word (min 65535 (s.seq.passCount.toNat + 1))
          passesTaken := if s.seq.mode = .passes then word (min 65535 (s.seq.passesTaken.toNat + 1))
            else s.seq.passesTaken
          sequence := s.seq.sequence + 1
          context := none } } ∧
      u = { commitMade b with seq := { (commitMade b).seq with position := 0, repetition := 1 } } ∧
      ((s.seq.mode = .onePass ∨ (s.seq.mode = .passes ∧
          word (min 65535 (s.seq.passesTaken.toNat + 1)) = s.seq.passesRequested)) →
        ∃ t, exec .gapEnd s = .next t ∧ stopsFor .finished u t ∧
          t.seq.position = 0 ∧ t.seq.repetition = 1 ∧ t.tables.commitPending = false) ∧
      ((s.seq.mode = .continuous ∨ s.seq.mode = .manual ∨ (s.seq.mode = .passes ∧
          word (min 65535 (s.seq.passesTaken.toNat + 1)) ≠ s.seq.passesRequested)) →
        exec .gapEnd s = .next (
          if c.entry.haltAfter = true ∨ s.seq.pauseRequest = true then { u with
            status := { u.status with flags := u.status.flags ||| seqPausedFlag }
            seq := { u.seq with state := .paused, pauseRequest := false } }
          else makeEntry u))

/-- STOP outside STOPPED (R46, R47): a begun step's record is emitted STOPPED with its open gates in the cut mask and
SYNC_CUT for its pulses, stored or lost by the record policy, and a step that is not begun leaves none; every gate is closed
and every pulse cut, the Trigger Queue is flushed, a pending commit is made, which ends a read session (R142), its start index
then 0 (the model's choice, log 24), and the Sequencer is STOPPED with reason HOST. In STOPPED it is refused WRONG_STATE. -/
def Obligations.StopAccountsForStep : Prop :=
  (∀ s : State, commandable s → s.seq.state = .stopped →
    exec .stop s = .next { s with cmd := { s.cmd with last := 0x02, result := .wrongState, detail := 0 } }) ∧
  (∀ s : State, commandable s → s.seq.state ≠ .stopped →
    ∃ u t : State, exec .stop s = .next t ∧
      accountsForStep .stopped { s with cmd := { s.cmd with last := 0x02, result := .accepted, detail := 0 } } u ∧
      stopsFor .host u t ∧
      (t.seq.position, t.seq.repetition) =
        (if s.tables.commitPending = true then (0, 1) else (s.seq.position, s.seq.repetition)) ∧
      t.tables.active = (if s.tables.commitPending = true then s.tables.active.other else s.tables.active))

/-- PAUSE by state (R49): a step that is not begun is left at once, its place or request given back, and PAUSED entered with
SEQ_PAUSED; during a begun step the request is latched; in PAUSED and STOPPED it is refused WRONG_STATE. -/
def Obligations.PauseByState : Prop :=
  (∀ s : State, commandable s → (s.seq.state = .waiting ∨ (s.seq.state = .held ∧ s.seq.hold = .recordSpace)) →
    exec .pause s = .next { s with
      cmd := { s.cmd with last := 0x03, result := .accepted, detail := 0 }
      records := { s.records with reserved := false, waitingRequest := false }
      status := { s.status with flags := s.status.flags ||| seqPausedFlag }
      seq := { s.seq with state := .paused, hold := .none, holdTimer := none, context := none
                          pauseRequest := false } }) ∧
  (∀ s : State, commandable s → begunState s.seq →
    exec .pause s = .next { s with
      cmd := { s.cmd with last := 0x03, result := .accepted, detail := 0 }
      seq := { s.seq with pauseRequest := true } }) ∧
  (∀ s : State, commandable s → (s.seq.state = .paused ∨ s.seq.state = .stopped) →
    exec .pause s = .next { s with cmd := { s.cmd with last := 0x03, result := .wrongState, detail := 0 } })

/-- The hold timer's expiry stops the run with HOLD_TIMEOUT: held for credit, the begun step's record is emitted STOPPED, not
EXPOSED, and stored or lost by the record policy; held for record space, no record is emitted and the waiting request is
withdrawn; a pending commit is made, which ends a read session (R44, R46, R142), its start index then 0 (the model's choice,
log 24). The timer has run when it stands at 0, or at 1 with its last millisecond event come (R45). -/
def Obligations.HoldTimeoutStops : Prop :=
  ∀ (s : State) (c : StepContext), s.inReset = false → s.seq.state = .held →
    (s.seq.holdTimer = some 0 ∨ (s.seq.holdTimer = some 1 ∧ s.timebase.msDue = true)) → s.seq.context = some c →
    ∃ u t : State, exec .holdTimerExpiry s = .next t ∧ accountsForStep .stopped s u ∧ stopsFor .holdTimeout u t ∧
      (c.begun = false → t.records.queue = s.records.queue ∧ t.records.waitingRequest = false ∧
        t.seq.sequence = s.seq.sequence)

/-! ### Timebase and triggers (03) -/

/-- A read of TSC_LO returns the low half of the TSC and copies the high half into the snapshot, so that the pair read
so is the whole TSC; it changes nothing else. A read of TSC_HI is a function of the state that returns the snapshot,
which no passing of time, no event and no other command changes, so that the pair is one value however much time lies
between the two accesses. Writes to either are ignored, hardware reset leaves the snapshot at 0, and SOFT_RESET keeps
it (R56). -/
def Obligations.TscPairIsConsistent : Prop :=
  (∀ s : State, s.inReset = false →
    readRegister 0x0B s = word (s.timebase.tsc.toNat % 65536) ∧ readRegister 0x0C s = s.timebase.snapshot ∧
    (∃ t, exec .tscLoRead s = .next t ∧ t.readData = word (s.timebase.tsc.toNat % 65536) ∧
      readRegister 0x0C t = word (s.timebase.tsc.toNat / 65536) ∧
      (readRegister 0x0C t).toNat * 65536 + t.readData.toNat = s.timebase.tsc.toNat ∧
      t = { s with readData := t.readData, timebase := { s.timebase with snapshot := t.timebase.snapshot } }) ∧
    (∀ w : Word, exec (.registerWrite 0x0B w) s = .next s ∧ exec (.registerWrite 0x0C w) s = .next s)) ∧
  (∀ s t : State, s.pending = [] → step s = .next t → t.timebase.snapshot = s.timebase.snapshot) ∧
  (∀ (c : Instr) (s t : State), c ≠ .tscLoRead → c ≠ .hardwareReset → exec c s = .next t →
    t.timebase.snapshot = s.timebase.snapshot ∧ t.timebase.tsc = s.timebase.tsc) ∧
  (∀ s t : State, exec .hardwareReset s = .next t → t.timebase.snapshot = 0) ∧
  (∀ s t : State, exec .softReset s = .next t → t.timebase = s.timebase)

/-- An arrival is dropped as EARLY in STOPPED, in MANUAL mode, and under ONLY_WHEN_WAITING when no step waits for its
source (R63); else it is dropped as an overrun by a full queue, with OVERRUN counted and TRIG_OVERRUN set, or joins the
tail with its source and timestamp (R66), after which a waiting TRIGGER step is served (R67); while neither it nor an entry
ahead of it is in the waiting step's mask, it stays queued and serves nothing. SOFT_TRIGGER is accepted in each case and is
an arrival from source 4 (R62). -/
def Obligations.SoftTriggerArrives : Prop :=
  ∀ s : State, commandable s →
    exec .softTrigger s = .next (arrive 4 { s with cmd := { s.cmd with last := 0x06, result := .accepted, detail := 0 } }) ∧
    (∀ src : Source, s.seq.state = .stopped ∨ s.seq.mode = .manual ∨ (s.policy.acceptance = .onlyWhenWaiting ∧
        ¬(s.seq.state = .waiting ∧ ∃ c mask, s.seq.context = some c ∧ c.record.advance = .trigger mask ∧
          accepts mask src = true)) →
      arrive src s = { s with counters := { s.counters with
        value := s.counters.value.set 1 (word (min 65535 ((s.counters.value[1]).toNat + 1))) } }) ∧
    (∀ src : Source, s.seq.state ≠ .stopped → s.seq.mode ≠ .manual → s.policy.acceptance = .queueAny →
      8 ≤ s.triggers.queue.length →
      arrive src s = { s with
        counters := { s.counters with
          value := s.counters.value.set 0 (word (min 65535 ((s.counters.value[0]).toNat + 1))) }
        status := { s.status with flags := s.status.flags ||| trigOverrunFlag } }) ∧
    (∀ src : Source, s.seq.state ≠ .stopped → s.seq.state ≠ .waiting → s.seq.mode ≠ .manual →
      s.policy.acceptance = .queueAny → s.triggers.queue.length < 8 →
      arrive src s = { s with triggers := { s.triggers with
        queue := s.triggers.queue ++ [{ source := src, time := s.timebase.tsc }] } }) ∧
    (∀ (src : Source) (c : StepContext) (mask : SourceMask), s.seq.state = .waiting → s.seq.mode ≠ .manual →
      s.seq.context = some c → c.record.advance = .trigger mask → accepts mask src = true →
      s.triggers.queue.length < 8 →
      arrive src s = serve mask c { s with triggers := { s.triggers with
        queue := s.triggers.queue ++ [{ source := src, time := s.timebase.tsc }] } }) ∧
    (∀ (src : Source) (c : StepContext) (mask : SourceMask), s.seq.state = .waiting → s.seq.mode ≠ .manual →
      s.policy.acceptance = .queueAny → s.seq.context = some c → c.record.advance = .trigger mask →
      accepts mask src = false → (∀ a ∈ s.triggers.queue, accepts mask a.source = false) →
      s.triggers.queue.length < 8 →
      arrive src s = { s with triggers := { s.triggers with
        queue := s.triggers.queue ++ [{ source := src, time := s.timebase.tsc }] } })

/-- A change of a trigger pin's level (R58, R59, R60): an edge that the edge select does not pass only changes the sensed
level; one that it passes is suppressed and counted while the holdoff window is open, the window keeping its time, and
else opens the window for the holdoff and becomes an arrival of the pin's source. A window closes when its closing time
has come, and no sooner; that an event taken before its time has no effect is the model's choice (log 3), and so is the
comparison of the two times modulo 2³² (log 19). -/
def Obligations.TriggerEdgeFiltered : Prop :=
  (∀ (s : State) (i : Fin 4) (level : Bool), s.inReset = false → level ≠ (s.triggers.inputs[i]).level →
      (((s.triggers.inputs[i]).select = .off ∨ ((s.triggers.inputs[i]).select = .rising ∧ level = false) ∨
          ((s.triggers.inputs[i]).select = .falling ∧ level = true)) →
        exec (.triggerEdge i level) s = .next { s with triggers := { s.triggers with
          inputs := s.triggers.inputs.set i { s.triggers.inputs[i] with level := level } } }) ∧
      (((s.triggers.inputs[i]).select = .both ∨ ((s.triggers.inputs[i]).select = .rising ∧ level = true) ∨
          ((s.triggers.inputs[i]).select = .falling ∧ level = false)) →
        (∀ w, (s.triggers.inputs[i]).window = some w → hasCome s.timebase.tsc w = false →
          exec (.triggerEdge i level) s = .next { s with
            triggers := { s.triggers with inputs := s.triggers.inputs.set i { s.triggers.inputs[i] with level := level } }
            counters := { s.counters with
              value := s.counters.value.set (suppressedCounter i)
                (word (min 65535 ((s.counters.value[suppressedCounter i]).toNat + 1))) } }) ∧
        ((∀ w, (s.triggers.inputs[i]).window = some w → hasCome s.timebase.tsc w = true) →
          exec (.triggerEdge i level) s = .next (arrive (pinSource i) { s with triggers := { s.triggers with
            inputs := s.triggers.inputs.set i { s.triggers.inputs[i] with
              level := level
              window := if (s.triggers.inputs[i]).holdoff = 0 then none
                else some (s.timebase.tsc + (s.triggers.inputs[i]).holdoff.setWidth 32) } } })))) ∧
  (∀ (s : State) (i : Fin 4) (w : Time), s.inReset = false → (s.triggers.inputs[i]).window = some w →
      exec (.holdoffWindowClose i) s = .next (if hasCome s.timebase.tsc w = true then
          { s with triggers := { s.triggers with
              inputs := s.triggers.inputs.set i { s.triggers.inputs[i] with window := none } } }
        else s))

/-- The millisecond event refills every channel to the smaller of its ceiling and its credit plus its rate, in every
condition (R84), and counts the hold timer of a Sequencer HELD for record space (R44); outside HELD nothing else changes.
A step HELD for CREDIT is checked again on the refilled credits (R93): while an entry is still short it stays HELD and its
timer counts; when none is, its exposure starts now (R43), with the lateness since its due instant, exactly as an exposure
starts at the due instant (R37, R80, R89, R105). A skip is final for the step: an entry skipped before stays skipped, and one
whose channel is OFF or LOCKED, or whose ceiling is below its cost, joins it (R88). -/
def Obligations.MillisecondRefills : Prop :=
  (∀ s : State, s.inReset = false → s.timebase.msDue = true → (s.seq.state = .held → s.seq.hold = .recordSpace) →
    ∃ t, exec .millisecondEvent s = .next t ∧
      (∀ i : Fin 8, t.channels.channel[i] = { s.channels.channel[i] with
        credit := word (min (s.channels.channel[i]).ceiling.toNat
          ((s.channels.channel[i]).credit.toNat + (s.channels.channel[i]).rate.toNat)) }) ∧
      t.seq = (if s.seq.state = .held then { s.seq with holdTimer := s.seq.holdTimer.map (· - 1) } else s.seq) ∧
      t = { s with timebase := { s.timebase with msDue := false }
                   channels := { s.channels with channel := t.channels.channel }
                   seq := t.seq }) ∧
  (∀ (s : State) (c : StepContext), s.inReset = false → s.timebase.msDue = true → s.seq.state = .held →
    s.seq.hold = .credit → s.seq.context = some c → s.policy.guardPolicy = .hold →
    ∃ u t : State, exec .millisecondEvent s = .next t ∧
      (∀ i : Fin 8, u.channels.channel[i] = { s.channels.channel[i] with
        credit := word (min (s.channels.channel[i]).ceiling.toNat
          ((s.channels.channel[i]).credit.toNat + (s.channels.channel[i]).rate.toNat)) }) ∧
      u = { s with timebase := { s.timebase with msDue := false }
                   channels := { s.channels with channel := u.channels.channel } } ∧
      ((∃ e ∈ c.record.channels, ¬skippedEntry u c e ∧ ¬satisfiedEntry u c e) → c.creditShort = true →
        ∃ d, (∀ i : Fin 8, inMask d.skipped i = true ↔ ∃ e ∈ c.record.channels, e.channel = i ∧ skippedEntry u c e) ∧
          d = { c with skipped := d.skipped } ∧
          t = { u with seq := { s.seq with holdTimer := s.seq.holdTimer.map (· - 1), context := some d } }) ∧
      ((∀ e ∈ c.record.channels, skippedEntry u c e ∨ satisfiedEntry u c e) → c.record.wf = true →
        stepPulses s = false → ∃ d, exposureStarts c d u t))

/-! ### Light channels (04) -/

/-- The effective level is the larger of 1 and the whole part of level times trim over 256 (R76), and the cost is the
effective level times the width, divided by 1024 and rounded up to a whole number: at least 1, and at most 65472; a check
computes it from the entry's level and width and from the channel's trim as it stands (R87). -/
def Obligations.CostOfEntry : Prop :=
  (∀ level trim width : Nat, 1 ≤ level → level ≤ 1023 → 1 ≤ trim → trim ≤ 256 → 1 ≤ width → width ≤ 65535 →
    effectiveLevel level trim = max 1 (level * trim / 256) ∧
    1024 * cost level trim width < effectiveLevel level trim * width + 1024 ∧
    effectiveLevel level trim * width ≤ 1024 * cost level trim width ∧
    1 ≤ cost level trim width ∧ cost level trim width ≤ 65472) ∧
  cost 1023 256 65535 = 65472 ∧ cost 800 256 40000 = 31250 ∧ cost 625 256 300 = 184 ∧
  (∀ (s : State) (e : ChannelEntry),
    entryCost s e = cost e.level.toNat (s.channels.channel[e.channel]).trim.toNat e.width.toNat)

/-- A write to CH_ENABLE sets all eight enable bits; a LIT channel whose bit is cleared has its gate cut and enters the cut
mask of the begun step, and nothing else of any channel changes (R75, R78, R82). When it cuts the last open gate of an
EXPOSING step, that is the step's last gate close, and SETTLING follows (R38), where the gap starts at once when no step pulse
is left (R39). Nothing else of the step changes, and nothing of a step that is not begun. -/
def Obligations.ChEnableWriteActs : Prop :=
  ∀ (s : State) (w : Word), s.inReset = false → (s.seq.state = .exposing → s.seq.context.isSome = true) →
    ∃ t, exec (.chEnableWrite w) s = .next t ∧
      (∀ i : Fin 8, t.channels.channel[i] = { s.channels.channel[i] with
        enabled := bit w i.val
        gate := if bit w i.val = true then (s.channels.channel[i]).gate else none }) ∧
      t.seq.state = (if s.seq.state = .exposing ∧
          ∀ i : Fin 8, (s.channels.channel[i]).gate.isSome = true → bit w i.val = false
        then .settling else s.seq.state) ∧
      (∀ c, s.seq.context = some c → c.begun = true → ∃ d, t.seq.context = some d ∧
        (∀ i : Fin 8, inMask d.cut i = true ↔
          inMask c.cut i = true ∨ ((s.channels.channel[i]).gate.isSome = true ∧ bit w i.val = false)) ∧
        d = { c with
          cut := d.cut
          lastGateClose := if t.seq.state = s.seq.state then c.lastGateClose else some s.timebase.tsc
          gapStart := if t.seq.state ≠ s.seq.state ∧ c.gapStart = none ∧ stepPulses s = false then some s.timebase.tsc
            else c.gapStart }) ∧
      (stepBegun s = false → s.seq.state ≠ .exposing → t.seq.context = s.seq.context) ∧
      t = { s with channels := { s.channels with channel := t.channels.channel }
                   seq := { s.seq with state := t.seq.state, context := t.seq.context } }

/-- A write to CH_CEILING of 1 to 65535 sets the selected channel's ceiling and lowers a credit above it to it, in any
condition of the channel and any state of the Sequencer; a write of 0 leaves both and sets WRITE_IGNORED. Hardware reset
sets every ceiling to 65535, and SOFT_RESET keeps them (R85). -/
def Obligations.ChCeilingWriteClamps : Prop :=
  (∀ (s : State) (w : Word), s.inReset = false →
    exec (.chCeilingWrite w) s = .next (if w = 0 then
        { s with status := { s.status with flags := s.status.flags ||| writeIgnoredFlag } }
      else { s with channels := { s.channels with
        channel := s.channels.channel.set s.channels.select { s.channels.channel[s.channels.select] with
          ceiling := w
          credit := word (min (s.channels.channel[s.channels.select]).credit.toNat w.toNat) } } })) ∧
  (∀ (s t : State) (i : Fin 8),
    (exec .hardwareReset s = .next t → (t.channels.channel[i]).ceiling = 65535) ∧
    (exec .softReset s = .next t → (t.channels.channel[i]).ceiling = (s.channels.channel[i]).ceiling))

/-- The closing of a gate by its width (R81): at its closing time the gate closes with no cut. While another gate is open
the step goes on EXPOSING; the closing of the last one is the step's last gate close, and SETTLING follows (R38), where
the gap starts at once when no step pulse is left (R39). When the closing time has come is compared modulo 2³² (log 19). -/
def Obligations.GateWidthEndCloses : Prop :=
  ∀ (s : State) (n : Fin 8) (g : OpenGate) (c : StepContext), s.inReset = false → s.seq.state = .exposing →
    s.seq.context = some c → c.gapStart = none → (s.channels.channel[n]).gate = some g →
    hasCome s.timebase.tsc g.closing = true →
    ((∃ m : Fin 8, m ≠ n ∧ (s.channels.channel[m]).gate.isSome = true) →
      exec (.gateWidthEnd n) s = .next { s with channels := { s.channels with
        channel := s.channels.channel.set n { s.channels.channel[n] with gate := none } } }) ∧
    ((∀ m : Fin 8, m ≠ n → (s.channels.channel[m]).gate = none) →
      exec (.gateWidthEnd n) s = .next { s with
        channels := { s.channels with
          channel := s.channels.channel.set n { s.channels.channel[n] with gate := none } }
        seq := { s.seq with
          state := .settling
          context := some { c with
            lastGateClose := some s.timebase.tsc
            gapStart := if stepPulses s = true then none else some s.timebase.tsc } } })

/-- An asserted fault line locks its channel (R96, R97): an open gate is cut, the channel is LOCKED, CHANNEL_FAULT is
set and a begun step is marked FAULT_SEEN, also while its gap runs; under fault policy CONTINUE the step goes on, to
SETTLING when the last gate was cut (R38, R39), and under STOP a run stops with CHANNEL_FAULT: a begun step's record
is emitted STOPPED, a step that is not begun leaves no record and gives back its place or its request, and with no
step in progress there is nothing to give back; a record is stored or lost by the record policy, and a pending commit
is made (R46, R48, R98), which ends a read session, its start index then 0 (the model's choice, log 24). A channel
already locked stays as it is but for its line, and the line's fall does not unlock it. -/
def Obligations.FaultLocksChannel : Prop :=
  (∀ (s : State) (n : Fin 8), s.inReset = false → (s.channels.channel[n]).locked = false → s.seq.state ≠ .exposing →
    (s.policy.faultPolicy = .continue ∨ s.seq.state = .stopped) → stepBegun s = false →
    exec (.faultAssert n) s = .next { s with
      channels := { s.channels with
        channel := s.channels.channel.set n { s.channels.channel[n] with
          faultLine := true
          locked := true
          gate := none } }
      status := { s.status with flags := s.status.flags ||| channelFaultFlag } }) ∧
  (∀ (s : State) (n : Fin 8) (c : StepContext), s.inReset = false → (s.channels.channel[n]).locked = false →
    s.policy.faultPolicy = .continue → s.seq.context = some c → c.begun = true →
    ∃ t d, exec (.faultAssert n) s = .next t ∧
      d = { c with
        cut := if (s.channels.channel[n]).gate.isSome = true then c.cut ||| oneChannel n else c.cut
        faultSeen := true } ∧
      t.seq = (if s.seq.state = .exposing ∧ ∀ m : Fin 8, m ≠ n → (s.channels.channel[m]).gate = none then
          { s.seq with
            state := .settling
            context := some { d with
              lastGateClose := some s.timebase.tsc
              gapStart := if c.gapStart = none ∧ stepPulses s = false then some s.timebase.tsc else c.gapStart } }
        else { s.seq with context := some d }) ∧
      t = { s with
        seq := t.seq
        channels := { s.channels with
          channel := s.channels.channel.set n { s.channels.channel[n] with
            faultLine := true
            locked := true
            gate := none } }
        status := { s.status with flags := s.status.flags ||| channelFaultFlag } }) ∧
  (∀ (s : State) (n : Fin 8), s.inReset = false → (s.channels.channel[n]).locked = false → s.seq.state ≠ .stopped →
    s.policy.faultPolicy = .stop →
    ∃ a u t : State, exec (.faultAssert n) s = .next t ∧
      a = { s with
        channels := { s.channels with
          channel := s.channels.channel.set n { s.channels.channel[n] with
            faultLine := true
            locked := true
            gate := none } }
        status := { s.status with flags := s.status.flags ||| channelFaultFlag }
        seq := { s.seq with context := s.seq.context.map fun c => if c.begun = true then
            { c with
              cut := if (s.channels.channel[n]).gate.isSome = true then c.cut ||| oneChannel n else c.cut
              faultSeen := true }
          else c } } ∧
      accountsForStep .stopped a u ∧ stopsFor .channelFault u t ∧
      (∀ c, s.seq.context = some c → c.begun = true → c.exposureStart.isSome = true →
        (s.policy.recordPolicy = .hold ∨ s.records.queue.length < 32) →
        ∃ r, t.records.queue = s.records.queue ++ [r] ∧ r.faultSeen = true ∧ r.cut = c.cut ||| openGates s)) ∧
  (∀ (s : State) (n : Fin 8), s.inReset = false → (s.channels.channel[n]).locked = true →
    exec (.faultAssert n) s = .next { s with channels := { s.channels with
      channel := s.channels.channel.set n { s.channels.channel[n] with faultLine := true } } }) ∧
  (∀ (s : State) (n : Fin 8),
    exec (.faultLineFall n) s = .next { s with channels := { s.channels with
      channel := s.channels.channel.set n { s.channels.channel[n] with faultLine := false } } })

/-- UNLOCK_CHANNEL (R99): BAD_ARGUMENT for a channel above 7; WRONG_STATE for a channel that is not locked; FAULT_PRESENT
while its line is asserted; else the lock is released with enable bit and credit as they are, and CHANNEL_FAULT stays. -/
def Obligations.UnlockChannelReleases : Prop :=
  (∀ s : State, commandable s → 7 < (s.cmd.arg[0]).toNat →
    exec .unlockChannel s = .next { s with cmd := { s.cmd with last := 0x20, result := .badArgument, detail := 0 } }) ∧
  (∀ (s : State) (n : Fin 8), commandable s → (s.cmd.arg[0]).toNat = n.val →
    exec .unlockChannel s = .next (
      if (s.channels.channel[n]).locked = false then
        { s with cmd := { s.cmd with last := 0x20, result := .wrongState, detail := 0 } }
      else if (s.channels.channel[n]).faultLine = true then
        { s with cmd := { s.cmd with last := 0x20, result := .faultPresent, detail := 0 } }
      else { s with
        cmd := { s.cmd with last := 0x20, result := .accepted, detail := 0 }
        channels := { s.channels with
          channel := s.channels.channel.set n { s.channels.channel[n] with locked := false } } }))

/-! ### Sync outputs (05) -/

/-- PULSE_SYNC (R108): BAD_ARGUMENT for an output above 3 or a width of 0 or above 16383; WRONG_STATE unless the Sequencer
is STOPPED or PAUSED and the output is IDLE; else the output is ACTIVE at once with a manual pulse that ends the width
later. -/
def Obligations.PulseSyncStartsManualPulse : Prop :=
  (∀ s : State, commandable s →
    (3 < (s.cmd.arg[0]).toNat ∨ s.cmd.arg[1] = 0 ∨ 16383 < (s.cmd.arg[1]).toNat) →
    exec .pulseSync s = .next { s with cmd := { s.cmd with last := 0x21, result := .badArgument, detail := 0 } }) ∧
  (∀ (s : State) (i : Fin 4), commandable s → (s.cmd.arg[0]).toNat = i.val → s.cmd.arg[1] ≠ 0 →
    (s.cmd.arg[1]).toNat ≤ 16383 →
    exec .pulseSync s = .next (
      if (s.seq.state = .stopped ∨ s.seq.state = .paused) ∧ (s.syncs[i]).pulse = .idle then
        { s with
          cmd := { s.cmd with last := 0x21, result := .accepted, detail := 0 }
          syncs := s.syncs.set i { s.syncs[i] with
            pulse := .active .manual (s.timebase.tsc + (s.cmd.arg[1]).setWidth 32) } }
      else { s with cmd := { s.cmd with last := 0x21, result := .wrongState, detail := 0 } }))

/-- A write to SYNC_CONFIG sets all polarities and enables; a changed polarity cuts the pulse of an ACTIVE output, an enable
and a SCHEDULED pulse are never cut (R104, R111). A cut step pulse marks SYNC_CUT in the step and counts as ended now, and in
SETTLING the gap starts when the last one has ended so (R39). In DELAYING, with the due instant reached and a manual pulse
in its way, the effect is that of DUE_INSTANT with the pulses so cut, which starts the exposure when none is left (R36).
The marker that the due instant has come is the model's (DEDUCED, log 12). -/
def Obligations.SyncConfigWriteActs : Prop :=
  (∀ (s : State) (w : Word), s.inReset = false →
    (s.seq.state = .delaying → ∀ c ∈ s.seq.context, c.dueReached = false) →
    ∃ t, exec (.syncConfigWrite w) s = .next t ∧
      (∀ i : Fin 4, (t.syncs[i]).enabled = bit w (4 + i.val) ∧
        ((t.syncs[i]).polarity = .activeLow ↔ bit w i.val = true) ∧
        (t.syncs[i]).pulse = (if (s.syncs[i]).pulse.isActive = true ∧ (t.syncs[i]).polarity ≠ (s.syncs[i]).polarity
          then .idle else (s.syncs[i]).pulse)) ∧
      (∀ c, s.seq.context = some c → ∃ d, t.seq.context = some d ∧
        (d.syncCut = true ↔ c.syncCut = true ∨ ∃ (i : Fin 4) (finish : Time),
          (s.syncs[i]).pulse = .active .stepPulse finish ∧ (t.syncs[i]).polarity ≠ (s.syncs[i]).polarity) ∧
        ((∃ (i : Fin 4) (finish : Time),
            (s.syncs[i]).pulse = .active .stepPulse finish ∧ (t.syncs[i]).polarity ≠ (s.syncs[i]).polarity) →
          d.lastSyncEnd = some s.timebase.tsc) ∧
        (s.seq.state = .settling ∧ c.gapStart = none ∧ (∀ i : Fin 4, (t.syncs[i]).pulse.isStep = false) →
          d.gapStart = some s.timebase.tsc) ∧
        (¬(s.seq.state = .settling ∧ c.gapStart = none ∧ ∀ i : Fin 4, (t.syncs[i]).pulse.isStep = false) →
          d.gapStart = c.gapStart) ∧
        ((∀ (i : Fin 4) (finish : Time), (s.syncs[i]).pulse = .active .stepPulse finish →
            (t.syncs[i]).polarity = (s.syncs[i]).polarity) → d.lastSyncEnd = c.lastSyncEnd) ∧
        d = { c with syncCut := d.syncCut, lastSyncEnd := d.lastSyncEnd, gapStart := d.gapStart }) ∧
      t = { s with syncs := t.syncs, seq := { s.seq with context := t.seq.context } }) ∧
  (∀ (s : State) (w : Word) (c : StepContext), s.inReset = false → s.seq.state = .delaying → s.seq.context = some c →
    c.dueReached = true → c.record.delay.toNat ≤ (s.timebase.tsc - c.reference).toNat → stepPulses s = false →
    ∃ u : State,
      (∀ i : Fin 4, (u.syncs[i]).enabled = bit w (4 + i.val) ∧
        ((u.syncs[i]).polarity = .activeLow ↔ bit w i.val = true) ∧
        (u.syncs[i]).pulse = (if (s.syncs[i]).pulse.isActive = true ∧ (u.syncs[i]).polarity ≠ (s.syncs[i]).polarity
          then .idle else (s.syncs[i]).pulse)) ∧
      u = { s with syncs := u.syncs } ∧ exec (.syncConfigWrite w) s = exec .dueInstant u)

/-- A SCHEDULED pulse starts at its start time and keeps its end; an ACTIVE step pulse ends at its end time, and when it
was the last of a settling step the gap starts then (R39, R106). A manual pulse's end only makes its output IDLE; but in
DELAYING, with the due instant reached (log 12), its effect is that of DUE_INSTANT with that output IDLE, which starts the
exposure when no manual pulse is left (R36, R109). When a time has come is compared modulo 2³² (log 19). -/
def Obligations.SyncPulseStartsAndEnds : Prop :=
  (∀ (s : State) (i : Fin 4) (start finish : Time), s.inReset = false → (s.syncs[i]).pulse = .scheduled start finish →
    hasCome s.timebase.tsc start = true →
    exec (.syncStart i) s = .next { s with
      syncs := s.syncs.set i { s.syncs[i] with pulse := .active .stepPulse finish } }) ∧
  (∀ (s : State) (i : Fin 4) (finish : Time) (c : StepContext), s.inReset = false →
    (s.syncs[i]).pulse = .active .stepPulse finish → hasCome s.timebase.tsc finish = true → s.seq.context = some c →
    c.gapStart = none →
    exec (.syncEnd i) s = .next { s with
      syncs := s.syncs.set i { s.syncs[i] with pulse := .idle }
      seq := { s.seq with context := some { c with
        lastSyncEnd := some s.timebase.tsc
        gapStart := if s.seq.state = .settling ∧ ∀ j : Fin 4, j ≠ i → (s.syncs[j]).pulse.isStep = false
          then some s.timebase.tsc else none } } }) ∧
  (∀ (s : State) (i : Fin 4) (finish : Time), s.inReset = false → (s.syncs[i]).pulse = .active .manual finish →
    hasCome s.timebase.tsc finish = true → (s.seq.state = .delaying → ∀ c ∈ s.seq.context, c.dueReached = false) →
    exec (.syncEnd i) s = .next { s with syncs := s.syncs.set i { s.syncs[i] with pulse := .idle } }) ∧
  (∀ (s : State) (i : Fin 4) (finish : Time) (c : StepContext), s.inReset = false →
    (s.syncs[i]).pulse = .active .manual finish → hasCome s.timebase.tsc finish = true → s.seq.state = .delaying →
    s.seq.context = some c → c.dueReached = true → c.record.delay.toNat ≤ (s.timebase.tsc - c.reference).toNat →
    exec (.syncEnd i) s = exec .dueInstant { s with syncs := s.syncs.set i { s.syncs[i] with pulse := .idle } })

/-! ### Shot records (06) -/

/-- REC0 to REC9 return the head record's fields in the bits of 10.4, and 0 with the queue empty. A read of REC9 returns the
head record's word and pops it; with no waiting request nothing else changes. With the queue empty it returns 0 and pops
nothing (R113, R122). -/
def Obligations.Rec9ReadPops : Prop :=
  (∀ (s : State) (r : ShotRecord) (rest : List ShotRecord), s.inReset = false → s.records.queue = r :: rest →
    s.records.waitingRequest = false →
    exec .rec9Read s = .next { s with
      readData := word (r.time.toNat / 65536)
      records := { s.records with queue := rest } }) ∧
  (∀ s : State, s.inReset = false → s.records.queue = [] → exec .rec9Read s = .next { s with readData := 0 }) ∧
  (∀ (s : State) (r : ShotRecord) (rest : List ShotRecord), s.inReset = false → s.records.queue = r :: rest →
    readRegister 0x24 s = r.sequence ∧
    readRegister 0x25 s = word (r.tag.toNat * 256 + r.step.val) ∧
    readRegister 0x26 s = word ((match r.source with
      | some src => src.val
      | none => 7) * 8192 + (r.repetition - 1) * 512 + r.position) ∧
    readRegister 0x27 s = r.pass ∧
    readRegister 0x28 s = word ((if r.faultSeen = true then 8192 else 0) + (if r.creditShort = true then 4096 else 0) +
      (if r.syncCut = true then 2048 else 0) + (if r.manual = true then 1024 else 0) +
      (if r.late = true then 512 else 0) + (if r.exposed = true then 256 else 0) +
      match r.outcome with
      | .done => 0
      | .stopped => 1
      | .aborted => 2) ∧
    readRegister 0x29 s = word (r.lit.toNat * 256 + r.skipped.toNat) ∧
    readRegister 0x2A s = word r.cut.toNat ∧
    readRegister 0x2B s = r.lateness ∧
    readRegister 0x2C s = word (r.time.toNat % 65536) ∧
    readRegister 0x2D s = word (r.time.toNat / 65536)) ∧
  (∀ (s : State) (addr : BitVec 6), s.records.queue = [] → 0x24 ≤ addr.toNat → addr.toNat ≤ 0x2D →
    readRegister addr s = 0)

/-- A pop, and a FLUSH_RECORDS, while the Sequencer is held for record space hand the freed place to the waiting request in the
same action: the marker becomes 1, the request is cleared, and the step leaves HELD for WAITING, as entered under its run
mode and advance: it waits, or is begun, or is served from the queue and begun (R32, R33, R34, R35, R67, R123, R125). With no
request, FLUSH_RECORDS removes every record and leaves the reservation
marker. CLEAR_COUNTERS zeroes the nine counters together (R173).
The marker that the due instant has come is the model's (DEDUCED, log 12). -/
def Obligations.FlushAndFreedPlace : Prop :=
  (∀ (s : State) (c : StepContext) (r : ShotRecord) (rest : List ShotRecord), commandable s →
      s.records.queue = r :: rest → s.records.waitingRequest = true → s.seq.context = some c →
      (∃ t, exec .rec9Read s = .next { t with readData := word (r.time.toNat / 65536) } ∧
        entersWaiting c { s with
          records := { s.records with queue := rest, reserved := true, waitingRequest := false } } t) ∧
      (∃ t, exec .flushRecords s = .next t ∧
        entersWaiting c { s with
          cmd := { s.cmd with last := 0x28, result := .accepted, detail := 0 }
          records := { s.records with queue := [], reserved := true, waitingRequest := false } } t)) ∧
  ((∀ s : State, commandable s → s.records.waitingRequest = false →
      exec .flushRecords s = .next { s with
        cmd := { s.cmd with last := 0x28, result := .accepted, detail := 0 }
        records := { s.records with queue := [] } }) ∧
    (∀ s : State, commandable s →
      ∃ t, exec .clearCounters s = .next t ∧ (∀ i : Fin 9, t.counters.value[i] = 0) ∧
        t = { s with
          cmd := { s.cmd with last := 0x29, result := .accepted, detail := 0 }
          counters := { s.counters with value := t.counters.value } }))

/-- At an emission the sequence number is taken and incremented, and the record joins the tail: under HOLD in its reserved
place, the marker returning to 0; under DROP while fewer than 32 records are queued, and else it is lost, with RECORD_LOST
counted and set (R27, R120, R121). The record of a completed step stands behind those queued, DONE and EXPOSED, with the
identity, the masks, the lateness held at 65535, the flags and the exposure start of its step (R113, R114, R115); the
record of a step that was not exposed has its lit and cut masks empty and every channel of its list skipped (R116). -/
def Obligations.EmissionStoresOrLoses : Prop :=
  ∀ (s : State) (o : ShotOutcome) (c : StepContext),
    (s.policy.recordPolicy = .hold →
      emit o c s = { s with
        seq := { s.seq with sequence := s.seq.sequence + 1 }
        records := { s.records with queue := s.records.queue ++ [shotRecord o c s], reserved := false } }) ∧
    (s.policy.recordPolicy = .drop → s.records.queue.length < 32 →
      emit o c s = { s with
        seq := { s.seq with sequence := s.seq.sequence + 1 }
        records := { s.records with queue := s.records.queue ++ [shotRecord o c s] } }) ∧
    (s.policy.recordPolicy = .drop → 32 ≤ s.records.queue.length →
      emit o c s = { s with
        seq := { s.seq with sequence := s.seq.sequence + 1 }
        counters := { s.counters with
          value := s.counters.value.set 7 (word (min 65535 ((s.counters.value[7]).toNat + 1))) }
        status := { s.status with flags := s.status.flags ||| recordLostFlag } }) ∧
    (∀ (start g : Time), s.inReset = false → s.seq.state = .settling → s.seq.context = some c →
      c.exposureStart = some start → c.gapStart = some g → c.record.gap.toNat ≤ (s.timebase.tsc - g).toNat →
      (s.policy.recordPolicy = .drop → s.records.queue.length < 32) →
      ∃ (t : State) (more : List ShotRecord), exec .gapEnd s = .next t ∧
        t.records.queue = s.records.queue ++ {
          sequence := s.seq.sequence
          step := c.entry.step
          tag := c.record.tag
          position := c.position
          repetition := c.repetition
          source := c.source
          pass := s.seq.passCount
          outcome := .done
          exposed := true
          late := c.late
          manual := c.manual
          syncCut := c.syncCut
          creditShort := c.creditShort
          faultSeen := c.faultSeen
          lit := c.lit
          skipped := c.skipped
          cut := c.cut
          lateness := word (min 65535 c.lateness.toNat)
          time := start } :: more) ∧
    (c.exposureStart = none → ∃ r, r = shotRecord o c s ∧ r.outcome = o ∧ r.exposed = false ∧ r.lit = 0 ∧ r.cut = 0 ∧
      r.lateness = 0 ∧ r.late = false ∧ r.syncCut = false ∧ r.time = s.timebase.tsc ∧ r.creditShort = c.creditShort ∧
      r.faultSeen = c.faultSeen ∧ r.manual = c.manual ∧ r.source = c.source ∧ r.sequence = s.seq.sequence ∧
      r.pass = s.seq.passCount ∧ r.step = c.entry.step ∧ r.tag = c.record.tag ∧ r.position = c.position ∧
      r.repetition = c.repetition ∧
      ∀ i : Fin 8, inMask r.skipped i = true ↔ ∃ e ∈ c.record.channels, e.channel = i)

/-! ### The Table Port (07) -/

/-- OPEN_LOAD and OPEN_READ with no session open and nothing to refuse them set the error to NONE and open the session at
the start index; the banks are as they were (R129, R130, R131). With a session open they set the error to NONE, close it
exactly as CLOSE_PORT would, and open the new one, with no entry written, nothing in assembly and the table-full marker clear,
so that a PARTIAL_RECORD of the close stands as the last error. They are
refused for the first of their reasons that applies: BAD_ARGUMENT for a table, index or bank out of range; OPEN_LOAD
COMMIT_PENDING, then STORE_BUSY for a LOAD or a SAVE of staging in flight, then BAD_ARGUMENT for an ORDER start beyond L as the
close will leave it; OPEN_READ STORE_BUSY for staging with a LOAD in flight; and a refused OPEN changes nothing else. -/
def Obligations.OpenStartsSession : Prop :=
  (∀ (s u : State) (c : Instr), commandable s → s.port.kind ≠ .none →
    exec .closePort { s with port := { s.port with lastError := .none, errorIndex := 0 } } = .next u →
    (c = .openLoad → s.tables.commitPending = false → loadInFlight s = false → saveOfStagingInFlight s = false →
      ((s.cmd.arg[0] = 0 ∧ (s.cmd.arg[1]).toNat ≤ 127) ∨
        (s.cmd.arg[0] = 1 ∧ (s.cmd.arg[1]).toNat ≤ 511 ∧ (s.cmd.arg[1]).toNat ≤
          (if s.port.kind = .load ∧ s.port.table = .order then s.port.start + s.port.written
            else (stagingBank s).order.length))) →
      exec c s = .next { u with
        cmd := { s.cmd with last := 0x18, result := .accepted, detail := 0 }
        port := { u.port with
          kind := .load
          table := if s.cmd.arg[0] = 0 then .steps else .order
          bank := .staging
          start := (s.cmd.arg[1]).toNat
          next := (s.cmd.arg[1]).toNat
          wordPos := 0
          assembly := []
          written := 0
          beyond := []
          tableFull := false } }) ∧
    (c = .openRead → (s.cmd.arg[2] = 1 → loadInFlight s = false) → (s.cmd.arg[2]).toNat ≤ 1 →
      ((s.cmd.arg[0] = 0 ∧ (s.cmd.arg[1]).toNat ≤ 127) ∨ (s.cmd.arg[0] = 1 ∧ (s.cmd.arg[1]).toNat ≤ 511)) →
      exec c s = .next { u with
        cmd := { s.cmd with last := 0x19, result := .accepted, detail := 0 }
        port := { u.port with
          kind := .read
          table := if s.cmd.arg[0] = 0 then .steps else .order
          bank := if s.cmd.arg[2] = 0 then .active else .staging
          start := (s.cmd.arg[1]).toNat
          next := (s.cmd.arg[1]).toNat
          wordPos := 0
          assembly := []
          written := 0
          beyond := []
          tableFull := false } })) ∧
  (∀ (s : State) (r : ResultCode), commandable s →
    (if 1 < (s.cmd.arg[0]).toNat ∨ (s.cmd.arg[0] = 0 ∧ 127 < (s.cmd.arg[1]).toNat) ∨ 511 < (s.cmd.arg[1]).toNat then
        r = .badArgument
      else if s.tables.commitPending = true then r = .commitPending
      else if loadInFlight s = true ∨ saveOfStagingInFlight s = true then r = .storeBusy
      else r = .badArgument ∧ s.cmd.arg[0] = 1 ∧
        (if s.port.kind = .load ∧ s.port.table = .order then s.port.start + s.port.written
          else (stagingBank s).order.length) < (s.cmd.arg[1]).toNat) →
    exec .openLoad s = .next { s with cmd := { s.cmd with last := 0x18, result := r, detail := 0 } }) ∧
  (∀ (s : State) (r : ResultCode), commandable s →
    (if 1 < (s.cmd.arg[0]).toNat ∨ (s.cmd.arg[0] = 0 ∧ 127 < (s.cmd.arg[1]).toNat) ∨ 511 < (s.cmd.arg[1]).toNat ∨
        1 < (s.cmd.arg[2]).toNat then r = .badArgument
      else r = .storeBusy ∧ s.cmd.arg[2] = 1 ∧ loadInFlight s = true) →
    exec .openRead s = .next { s with cmd := { s.cmd with last := 0x19, result := r, detail := 0 } }) ∧
  (∀ s : State, commandable s → s.port.kind = .none → s.tables.commitPending = false → loadInFlight s = false →
    saveOfStagingInFlight s = false →
    ((s.cmd.arg[0] = 0 ∧ (s.cmd.arg[1]).toNat ≤ 127) ∨
      (s.cmd.arg[0] = 1 ∧ (s.cmd.arg[1]).toNat ≤ 511 ∧ (s.cmd.arg[1]).toNat ≤ (stagingBank s).order.length)) →
    exec .openLoad s = .next { s with
      cmd := { s.cmd with last := 0x18, result := .accepted, detail := 0 }
      port := {
        kind := .load
        table := if s.cmd.arg[0] = 0 then .steps else .order
        bank := .staging
        start := (s.cmd.arg[1]).toNat
        next := (s.cmd.arg[1]).toNat
        wordPos := 0
        assembly := []
        written := 0
        beyond := []
        tableFull := false
        lastError := .none
        errorIndex := 0 } }) ∧
  (∀ s : State, commandable s → s.port.kind = .none → (s.cmd.arg[2] = 1 → loadInFlight s = false) →
    (s.cmd.arg[2]).toNat ≤ 1 →
    ((s.cmd.arg[0] = 0 ∧ (s.cmd.arg[1]).toNat ≤ 127) ∨ (s.cmd.arg[0] = 1 ∧ (s.cmd.arg[1]).toNat ≤ 511)) →
    exec .openRead s = .next { s with
      cmd := { s.cmd with last := 0x19, result := .accepted, detail := 0 }
      port := {
        kind := .read
        table := if s.cmd.arg[0] = 0 then .steps else .order
        bank := if s.cmd.arg[2] = 0 then .active else .staging
        start := (s.cmd.arg[1]).toNat
        next := (s.cmd.arg[1]).toNat
        wordPos := 0
        assembly := []
        written := 0
        beyond := []
        tableFull := false
        lastError := .none
        errorIndex := 0 } })

/-- CLOSE_PORT by session (R132): with none open it is refused WRONG_STATE. Else the session ends with TP_INDEX and
the word position kept, and the record in assembly, the entries written and the table-full marker discarded (R128); an
ORDER load session sets the staging length to the start index plus the entries written, keeping or replacing entries
below it; a step load session with a record in assembly reports PARTIAL_RECORD. -/
def Obligations.ClosePortBySession : Prop :=
  ∀ s : State, commandable s →
    (s.port.kind = .none →
      exec .closePort s = .next { s with cmd := { s.cmd with last := 0x1A, result := .wrongState, detail := 0 } }) ∧
    (s.port.kind ≠ .none →
      ∃ t, exec .closePort s = .next t ∧
        t.cmd = { s.cmd with last := 0x1A, result := .accepted, detail := 0 } ∧
        t.port.kind = .none ∧ t.port.next = s.port.next ∧ t.port.wordPos = s.port.wordPos ∧ t.port.assembly = [] ∧
        t.port.written = 0 ∧ t.port.beyond = [] ∧ t.port.tableFull = false ∧ activeBank t = activeBank s ∧ t.tables.active = s.tables.active ∧
        t.tables.commitPending = s.tables.commitPending ∧ t.tables.incomplete = s.tables.incomplete ∧
        (stagingBank t).steps = (stagingBank s).steps ∧
        (stagingBank t).order = (if s.port.kind = .load ∧ s.port.table = .order then
            ((stagingBank s).order ++ s.port.beyond).take (s.port.start + s.port.written)
          else (stagingBank s).order) ∧
        (if s.port.kind = .load ∧ s.port.table = .steps ∧ s.port.wordPos ≠ 0 then
          t.port.lastError = .partialRecord ∧ t.port.errorIndex = word s.port.next ∧
            t.status.flags = s.status.flags ||| portErrorFlag
        else t.port.lastError = s.port.lastError ∧ t.port.errorIndex = s.port.errorIndex ∧
          t.status.flags = s.status.flags) ∧
        t = { s with tables := t.tables, cmd := t.cmd, port := t.port, status := { s.status with flags := t.status.flags } })

/-- The words of a step record, written one after the other to TP_DATA in a step load session at a record boundary, store
exactly that record in the staging entry at the next index, advance the index by one, and change nothing else
(R133, R135, R136, 10.4). -/
def Obligations.StreamedRecordIsStored : Prop :=
  ∀ (s : State) (r : StepRecord) (i : Fin 128), s.inReset = false → r.wf = true → s.port.kind = .load →
    s.port.table = .steps → s.port.next = i.val → s.port.wordPos = 0 → s.port.assembly = [] →
    runAll ((encodeRecord r).map .tpDataWrite) s = .next { setStaging { stagingBank s with
        steps := (stagingBank s).steps.set i (some r) } s with
      port := { s.port with next := i.val + 1 } }

/-- The words of a step load session (R133, R134, R136): a header with counts in range begins a record, one with
counts out of range puts the session into DESYNC with BAD_HEADER, where every word is ignored; a word short of the
declared length joins the record; a completed record that passes its checks replaces the staging entry at the next
index, and one that fails a check is discarded with its error, the entry keeping its contents, the index advancing in
both cases; and past the table's end TABLE_FULL is reported once. The checks are made in record order, and the first
that fails gives the error (R135): BAD_FIELD for the advance word's kind or empty mask, for a channel entry's level or
width of 0 and for a sync entry's width of 0; DUPLICATE for a channel or an output that an earlier entry names; and
words that pass them all are the record that they spell, its unused bits disregarded and the source bits of an
IMMEDIATE advance dropped. -/
def Obligations.StepLoadWords : Prop :=
  (∀ (s : State) (w : Word), s.inReset = false → s.port.kind = .desync → exec (.tpDataWrite w) s = .next s) ∧
  (∀ (s : State) (w : Word), s.inReset = false → s.port.kind = .load → s.port.table = .steps →
    (s.port.next < 128 → s.port.assembly = [] → (w.toNat / 16 % 16 ≤ 8 ∧ w.toNat % 8 ≤ 4) →
      exec (.tpDataWrite w) s = .next { s with port := { s.port with assembly := [w], wordPos := 1 } }) ∧
    (s.port.next < 128 → s.port.assembly = [] → ¬(w.toNat / 16 % 16 ≤ 8 ∧ w.toNat % 8 ≤ 4) →
      exec (.tpDataWrite w) s = .next { s with
        port := { s.port with kind := .desync, lastError := .badHeader, errorIndex := word s.port.next }
        status := { s.status with flags := s.status.flags ||| portErrorFlag } }) ∧
    (∀ (header : Word) (ws : List Word), s.port.next < 128 → s.port.assembly = header :: ws →
      ws.length + 2 < 4 + 2 * (header.toNat / 16 % 16) + 2 * (header.toNat % 8) →
      exec (.tpDataWrite w) s = .next { s with
        port := { s.port with assembly := header :: ws ++ [w], wordPos := ws.length + 1 + 1 } }) ∧
    (∀ (header : Word) (ws : List Word) (e : PortError), s.port.next < 128 → s.port.assembly = header :: ws →
      4 + 2 * (header.toNat / 16 % 16) + 2 * (header.toNat % 8) ≤ ws.length + 2 →
      decodeRecord (header :: ws ++ [w]) = .error e →
      exec (.tpDataWrite w) s = .next { s with
        port := { s.port with
          assembly := []
          wordPos := 0
          next := s.port.next + 1
          lastError := e
          errorIndex := word s.port.next }
        status := { s.status with flags := s.status.flags ||| portErrorFlag } }) ∧
    (∀ (header : Word) (ws : List Word) (i : Fin 128) (r : StepRecord), s.port.next = i.val →
      s.port.assembly = header :: ws → 4 + 2 * (header.toNat / 16 % 16) + 2 * (header.toNat % 8) ≤ ws.length + 2 →
      decodeRecord (header :: ws ++ [w]) = .ok r →
      exec (.tpDataWrite w) s = .next { setStaging { stagingBank s with
          steps := (stagingBank s).steps.set i (some r) } s with
        port := { s.port with assembly := [], wordPos := 0, next := i.val + 1 } }) ∧
    (128 ≤ s.port.next →
      exec (.tpDataWrite w) s = .next (if s.port.tableFull = true then s else { s with
        port := { s.port with tableFull := true, lastError := .tableFull, errorIndex := word s.port.next }
        status := { s.status with flags := s.status.flags ||| portErrorFlag } }))) ∧
  (∀ (header advance delay gap : Word) (body : List Word) (n m : Nat),
    header.toNat / 16 % 16 = n → header.toNat % 8 = m → n ≤ 8 → m ≤ 4 → body.length = 2 * n + 2 * m →
    (¬advanceChecks advance → decodeRecord (header :: advance :: delay :: gap :: body) = .error .badField) ∧
    (∀ k < n, advanceChecks advance → (∀ i < k, channelChecks body i ∧ channelIsNew body i) →
      (¬channelChecks body k → decodeRecord (header :: advance :: delay :: gap :: body) = .error .badField) ∧
      (channelChecks body k → ¬channelIsNew body k →
        decodeRecord (header :: advance :: delay :: gap :: body) = .error .duplicate)) ∧
    (∀ k < m, advanceChecks advance → (∀ i < n, channelChecks body i ∧ channelIsNew body i) →
      (∀ i < k, syncChecks body n i ∧ syncIsNew body n i) →
      (¬syncChecks body n k → decodeRecord (header :: advance :: delay :: gap :: body) = .error .badField) ∧
      (syncChecks body n k → ¬syncIsNew body n k →
        decodeRecord (header :: advance :: delay :: gap :: body) = .error .duplicate)) ∧
    (advanceChecks advance → (∀ i < n, channelChecks body i ∧ channelIsNew body i) →
      (∀ i < m, syncChecks body n i ∧ syncIsNew body n i) →
      decodeRecord (header :: advance :: delay :: gap :: body) = .ok (spelledRecord header advance delay gap body)))

/-- The words of an ORDER load session (R137): below the staging length a word replaces the entry there at once, at or beyond
it the word is kept for the close; either way the index and the entries written advance, and nothing else changes. Past the
table's end a word is ignored, and the first one reports TABLE_FULL. -/
def Obligations.OrderLoadWords : Prop :=
  (∀ (s : State) (w : Word), s.inReset = false → s.port.kind = .load → s.port.table = .order → 512 ≤ s.port.next →
    exec (.tpDataWrite w) s = .next (if s.port.tableFull = true then s else { s with
      port := { s.port with tableFull := true, lastError := .tableFull, errorIndex := word s.port.next }
      status := { s.status with flags := s.status.flags ||| portErrorFlag } })) ∧
  ∀ (s : State) (w : Word), s.inReset = false → s.port.kind = .load → s.port.table = .order → s.port.next < 512 →
    ∃ t, exec (.tpDataWrite w) s = .next t ∧
      t.port.next = s.port.next + 1 ∧ t.port.written = s.port.written + 1 ∧
      t.tables.active = s.tables.active ∧ t.tables.commitPending = s.tables.commitPending ∧
      t.tables.incomplete = s.tables.incomplete ∧
      activeBank t = activeBank s ∧ (stagingBank t).steps = (stagingBank s).steps ∧
      (s.port.next < (stagingBank s).order.length →
        (stagingBank t).order = (stagingBank s).order.set s.port.next (decodeOrder w) ∧ t.port.beyond = s.port.beyond) ∧
      ((stagingBank s).order.length ≤ s.port.next →
        (stagingBank t).order = (stagingBank s).order ∧ t.port.beyond = s.port.beyond ++ [decodeOrder w]) ∧
      t = { s with
        tables := t.tables
        port := { s.port with next := t.port.next, written := t.port.written, beyond := t.port.beyond } }

/-- A read of TP_DATA in a read session returns the next word of the step's image, or the order entry below L, and
advances; with the index at 128, or for ORDER at 512, it returns 0 and changes nothing more (R138, R139); in a load
session, or with none open, it returns 0 with WRONG_DIRECTION or NO_SESSION; and a write is answered likewise in a
read session and with none open (R140). -/
def Obligations.TpDataReadServes : Prop :=
  (∀ s : State, s.inReset = false → s.port.kind = .read →
    ((s.port.table = .steps ∧ 128 ≤ s.port.next) ∨ (s.port.table = .order ∧ 512 ≤ s.port.next ∧
      (s.tables.bank (s.tables.ofRole s.port.bank)).order.length ≤ 512)) →
    exec .tpDataRead s = .next { s with readData := 0 }) ∧
  (∀ (s : State) (i : Fin 128) (w : Word), s.inReset = false → s.port.kind = .read → s.port.table = .steps →
    s.port.next = i.val →
    (stepImage (s.tables.bank (s.tables.ofRole s.port.bank)).steps[i])[s.port.wordPos]? = some w →
    exec .tpDataRead s = .next { s with
      readData := w
      port := if s.port.wordPos + 1 < (stepImage (s.tables.bank (s.tables.ofRole s.port.bank)).steps[i]).length then
          { s.port with wordPos := s.port.wordPos + 1 }
        else { s.port with next := i.val + 1, wordPos := 0 } }) ∧
  (∀ s : State, s.inReset = false → s.port.kind = .read → s.port.table = .order → s.port.next < 512 →
    exec .tpDataRead s = .next { s with
      readData := match (s.tables.bank (s.tables.ofRole s.port.bank)).order[s.port.next]? with
        | some e => encodeOrder e
        | none => 0
      port := { s.port with next := s.port.next + 1 } }) ∧
  (∀ (s : State) (w : Word), s.inReset = false → s.port.kind = .none →
    exec .tpDataRead s = .next { s with
      readData := 0
      port := { s.port with lastError := .noSession, errorIndex := 0xFFFF }
      status := { s.status with flags := s.status.flags ||| portErrorFlag } } ∧
    exec (.tpDataWrite w) s = .next { s with
      port := { s.port with lastError := .noSession, errorIndex := 0xFFFF }
      status := { s.status with flags := s.status.flags ||| portErrorFlag } }) ∧
  (∀ (s : State) (w : Word), s.inReset = false →
    ((s.port.kind = .load ∨ s.port.kind = .desync) →
      exec .tpDataRead s = .next { s with
        readData := 0
        port := { s.port with lastError := .wrongDirection, errorIndex := word s.port.next }
        status := { s.status with flags := s.status.flags ||| portErrorFlag } }) ∧
    (s.port.kind = .read →
      exec (.tpDataWrite w) s = .next { s with
        port := { s.port with lastError := .wrongDirection, errorIndex := word s.port.next }
        status := { s.status with flags := s.status.flags ||| portErrorFlag } }))

/-! ### Recipe Store and start-up (08) -/

/-- SAVE, LOAD, ERASE, SET_STARTUP and ABORT_STORE when nothing refuses them (R153, R155, R157, R158, R159). A SAVE fixes its
bank by role, shows its slot WRITING with the label and with a generation one above the directory's largest, held at
0xFFFFFFFF (R148), and begins to erase the header; a LOAD ends a read session on the staging bank with SESSION_ENDED (R142), its
start index then 0 (the model's choice, log 24), sets INCOMPLETE and begins to read; an ERASE shows its slot
WRITING with label and generation 0; a SET_STARTUP begins to erase the sector that does not hold the current record; an
ABORT_STORE sets the abort-pending bit. -/
def Obligations.StoreOperationsStart : Prop :=
  (∀ (s : State) (slot k : Fin 6) (g : BitVec 32), commandable s → s.store.job = .idle →
    s.tables.commitPending = false → (s.cmd.arg[0]).toNat = slot.val → (s.cmd.arg[1]).toNat ≤ 1 →
    (s.cmd.arg[1] = 1 → s.tables.incomplete = false ∧ loadSession s = false) →
    (∀ i : Fin 6, (s.store.directory[i]).generation.toNat ≤ (s.store.directory[k]).generation.toNat) →
    g.toNat = min 4294967295 ((s.store.directory[k]).generation.toNat + 1) →
    exec .save s = .next { s with
      cmd := { s.cmd with last := 0x30, result := .accepted, detail := 0 }
      store := { s.store with
        directory := s.store.directory.set slot { state := .writing, label := s.cmd.arg[2], generation := g }
        operation := .save
        slot := BitVec.ofNat 3 slot.val
        job := .save slot (if s.cmd.arg[1] = 0 then .active else .staging)
          (if s.cmd.arg[1] = 0 then s.tables.active else s.tables.active.other) s.cmd.arg[2] g (.erasing 0 0)
        abortPending := false
        quiet := false } }) ∧
  (∀ (s : State) (slot : Fin 6), commandable s → s.store.job = .idle → s.tables.commitPending = false →
    (s.cmd.arg[0]).toNat = slot.val → (s.store.directory[slot]).state = .valid → loadSession s = false →
    exec .load s = .next { s with
      cmd := { s.cmd with last := 0x31, result := .accepted, detail := 0 }
      tables := { s.tables with incomplete := true }
      port := if s.port.kind = .read ∧ s.port.bank = .staging then
          { s.port with kind := .none, table := .steps, bank := .active, start := 0, assembly := [], written := 0
                        beyond := [], tableFull := false, lastError := .sessionEnded, errorIndex := word s.port.next }
        else s.port
      status := { s.status with
        flags := if s.port.kind = .read ∧ s.port.bank = .staging then s.status.flags ||| portErrorFlag
          else s.status.flags }
      store := { s.store with
        operation := .load
        slot := BitVec.ofNat 3 slot.val
        job := .load { slot := slot, sectorsRead := 0, header := .blank, words := [], mismatch := false, definedAreas := 0 }
        abortPending := false
        quiet := false } }) ∧
  (∀ (s : State) (slot : Fin 6), commandable s → s.store.job = .idle → (s.cmd.arg[0]).toNat = slot.val →
    exec .erase s = .next { s with
      cmd := { s.cmd with last := 0x32, result := .accepted, detail := 0 }
      store := { s.store with
        directory := s.store.directory.set slot { state := .writing, label := 0, generation := 0 }
        operation := .erase
        slot := BitVec.ofNat 3 slot.val
        job := .erase slot 0 0
        abortPending := false
        quiet := false } }) ∧
  (∀ (s : State) (boot : Option (Fin 6)) (auto : Autorun), commandable s → s.store.job = .idle →
    (s.cmd.arg[0]).toNat = bootSlotCode boot → (s.cmd.arg[1]).toNat = autorunCode auto →
    exec .setStartup s = .next { s with
      cmd := { s.cmd with last := 0x33, result := .accepted, detail := 0 }
      store := { s.store with
        operation := .setStartup
        slot := BitVec.ofNat 3 (bootSlotCode boot)
        job := .setStartup boot auto (if s.store.currentCopy = some 0 then 1 else 0) (.erasing 0)
        abortPending := false
        quiet := false } }) ∧
  (∀ s : State, commandable s → s.store.job ≠ .idle →
    exec .abortStore s = .next { s with
      cmd := { s.cmd with last := 0x34, result := .accepted, detail := 0 }
      store := { s.store with abortPending := true } })

/-- The refusals of the store commands, each for the first reason that applies (R153, R155, R157, R158, R159): BAD_ARGUMENT for
an argument out of range; STORE_BUSY while an operation is in flight; for a SAVE then COMMIT_PENDING, and of the staging bank
STAGING_INCOMPLETE and PORT_OPEN; for a LOAD then SLOT_EMPTY, SLOT_DAMAGED, COMMIT_PENDING and PORT_OPEN; for an ABORT_STORE
only WRONG_STATE, with no operation in flight. A refused command changes nothing but the last command code, CMD_RESULT and
CMD_DETAIL. -/
def Obligations.StoreCommandsRefused : Prop :=
  (∀ (s : State) (r : ResultCode), commandable s →
    (if 5 < (s.cmd.arg[0]).toNat ∨ 1 < (s.cmd.arg[1]).toNat then r = .badArgument
      else if s.store.job ≠ .idle then r = .storeBusy
      else if s.tables.commitPending = true then r = .commitPending
      else if s.tables.incomplete = true then r = .stagingIncomplete ∧ s.cmd.arg[1] = 1
      else r = .portOpen ∧ s.cmd.arg[1] = 1 ∧ (s.port.kind = .load ∨ s.port.kind = .desync)) →
    exec .save s = .next { s with cmd := { s.cmd with last := 0x30, result := r, detail := 0 } }) ∧
  (∀ s : State, commandable s → 5 < (s.cmd.arg[0]).toNat →
    exec .load s = .next { s with cmd := { s.cmd with last := 0x31, result := .badArgument, detail := 0 } }) ∧
  (∀ (s : State) (slot : Fin 6) (r : ResultCode), commandable s → (s.cmd.arg[0]).toNat = slot.val →
    (if s.store.job ≠ .idle then r = .storeBusy
      else if (s.store.directory[slot]).state = .empty then r = .slotEmpty
      else if (s.store.directory[slot]).state = .damaged then r = .slotDamaged
      else if s.tables.commitPending = true then r = .commitPending
      else r = .portOpen ∧ (s.port.kind = .load ∨ s.port.kind = .desync)) →
    exec .load s = .next { s with cmd := { s.cmd with last := 0x31, result := r, detail := 0 } }) ∧
  (∀ (s : State) (r : ResultCode), commandable s →
    (if 5 < (s.cmd.arg[0]).toNat then r = .badArgument else r = .storeBusy ∧ s.store.job ≠ .idle) →
    exec .erase s = .next { s with cmd := { s.cmd with last := 0x32, result := r, detail := 0 } }) ∧
  (∀ (s : State) (r : ResultCode), commandable s →
    (if (5 < (s.cmd.arg[0]).toNat ∧ s.cmd.arg[0] ≠ 7) ∨ 2 < (s.cmd.arg[1]).toNat then r = .badArgument
      else r = .storeBusy ∧ s.store.job ≠ .idle) →
    exec .setStartup s = .next { s with cmd := { s.cmd with last := 0x33, result := r, detail := 0 } }) ∧
  (∀ s : State, commandable s → s.store.job = .idle →
    exec .abortStore s = .next { s with cmd := { s.cmd with last := 0x34, result := .wrongState, detail := 0 } })

/-- Erase attempts of an ERASE, of a SAVE and of a SET_STARTUP (R152, R154, R157, R158, R159, R160): a sector that verifies
blank reads erased, header first, and the next is begun; after the ninth an ERASE ends OK with the slot EMPTY and a SAVE
goes on to PROGRAMMING, as a SET_STARTUP does after its one sector. With an abort pending and steps left it ends ABORTED,
the slot EMPTY. An attempt that fails its verify is followed by another, and the third, or one with an abort pending, ends
the operation ERASE_FAILED: the slot DAMAGED, or the start-up copy invalid and the current record as it was. An end sets
STORE_DONE, but not after a SOFT_RESET (R165). Only the sector in hand changes. -/
def Obligations.EraseAttempts : Prop :=
  (∀ (s : State) (slot : Fin 6) (sector failed : Nat) (verified : Bool), s.inReset = false →
    s.store.job = .erase slot sector failed → sector ≤ 8 →
    ∃ t, exec (.eraseAttemptDone verified) s = .next t ∧ erasesSector slot sector verified s t ∧
      (∀ j : Fin 6, j ≠ slot → t.store.directory[j] = s.store.directory[j]) ∧
      (if verified = true ∧ (8 ≤ sector ∨ s.store.abortPending = true) then
        operationEnds (if 8 ≤ sector then .ok else .aborted) s t ∧
          t.store.directory[slot] = { state := .empty, label := 0, generation := 0 }
      else if verified = true then operationGoesOn (.erase slot (sector + 1) 0) s t
      else if failed < 2 ∧ s.store.abortPending = false then operationGoesOn (.erase slot sector (failed + 1)) s t
      else operationEnds .eraseFailed s t ∧
        t.store.directory[slot] = { state := .damaged, label := 0, generation := 0 }) ∧
      t = { s with
        store := { s.store with
          array := t.store.array
          directory := t.store.directory
          job := t.store.job
          outcome := t.store.outcome
          abortPending := t.store.abortPending
          quiet := t.store.quiet }
        status := { s.status with flags := t.status.flags }
        freeCount := t.freeCount }) ∧
  (∀ (s : State) (slot : Fin 6) (source : BankRole) (bank : BankId) (label : Word) (g : BitVec 32) (sector failed : Nat)
    (verified : Bool), s.inReset = false → s.store.job = .save slot source bank label g (.erasing sector failed) →
    sector ≤ 8 →
    ∃ t, exec (.eraseAttemptDone verified) s = .next t ∧ erasesSector slot sector verified s t ∧
      (∀ j : Fin 6, j ≠ slot → t.store.directory[j] = s.store.directory[j]) ∧
      (if verified = true ∧ s.store.abortPending = true then
        operationEnds .aborted s t ∧ t.store.directory[slot] = { state := .empty, label := 0, generation := 0 }
      else if verified = true then
        operationGoesOn
          (.save slot source bank label g (if sector < 8 then .erasing (sector + 1) 0 else .programming 0)) s t
      else if failed < 2 ∧ s.store.abortPending = false then
        operationGoesOn (.save slot source bank label g (.erasing sector (failed + 1))) s t
      else operationEnds .eraseFailed s t ∧
        t.store.directory[slot] = { state := .damaged, label := 0, generation := 0 }) ∧
      t = { s with
        store := { s.store with
          array := t.store.array
          directory := t.store.directory
          job := t.store.job
          outcome := t.store.outcome
          abortPending := t.store.abortPending
          quiet := t.store.quiet }
        status := { s.status with flags := t.status.flags }
        freeCount := t.freeCount }) ∧
  (∀ (s : State) (boot : Option (Fin 6)) (auto : Autorun) (target : Fin 2) (failed : Nat) (verified : Bool),
    s.inReset = false → s.store.job = .setStartup boot auto target (.erasing failed) →
    ∃ t, exec (.eraseAttemptDone verified) s = .next t ∧
      (verified = true → t.store.array.startups[target] = .blank) ∧ (t.store.array.startups[target]).judge = none ∧
      (∀ copy : Fin 2, copy ≠ target → t.store.array.startups[copy] = s.store.array.startups[copy]) ∧
      (if verified = true ∧ s.store.abortPending = true then operationEnds .aborted s t
      else if verified = true then operationGoesOn (.setStartup boot auto target .programming) s t
      else if failed < 2 ∧ s.store.abortPending = false then
        operationGoesOn (.setStartup boot auto target (.erasing (failed + 1))) s t
      else operationEnds .eraseFailed s t) ∧
      t = { s with
        store := { s.store with
          array := { s.store.array with startups := t.store.array.startups }
          job := t.store.job
          outcome := t.store.outcome
          abortPending := t.store.abortPending
          quiet := t.store.quiet }
        status := { s.status with flags := t.status.flags } })

/-- Program steps (R152, R154, R158, R159, R160): a verified part of a SAVE before the last is in the array, and the
next part is begun; the last ends the SAVE OK with the slot VALID under its label and generation, and its header
committed with a check value that matches the bank's image; a part that fails its verify ends it PROGRAM_FAILED, and
an abort before the last part ABORTED, with the slot DAMAGED; only the part in hand changes, and after a failed verify
a header that was not committed is not committed. That the unused words of a step area are left erased is the model's
choice (log 9). A verified SET_STARTUP makes the new copy the current record, abort pending or not; one that fails its
verify ends PROGRAM_FAILED, its copy invalid and the current record as it was. An end sets STORE_DONE, but not after a
SOFT_RESET (R165). -/
def Obligations.ProgramSteps : Prop :=
  (∀ (s : State) (slot : Fin 6) (source : BankRole) (bank : BankId) (label : Word) (g : BitVec 32) (part : Nat)
    (verified : Bool), s.inReset = false → s.store.job = .save slot source bank label g (.programming part) → part ≤ 9 →
    ∃ t, exec (.programStepDone verified) s = .next t ∧
      (∀ j : Fin 6, j ≠ slot → t.store.directory[j] = s.store.directory[j] ∧
        t.store.array.headers[j] = s.store.array.headers[j]) ∧
      (1 ≤ part → part ≤ 8 → t.store.array.headers = s.store.array.headers) ∧
      (∀ a : Nat, (part = 0 ∨ part = 9 ∨ a < imageBase slot part ∨ imageBase slot part + 512 ≤ a) →
        t.store.array.images.read a = s.store.array.images.read a) ∧
      (verified = true → part = 0 → t.store.array.headers[slot] = .written
        { marker := Config.bodyMarker, label := label, generation := g
          length := word (s.tables.bank bank).order.length, definedSteps := word (s.tables.bank bank).definedSteps
          check := none, commit := Config.erased }) ∧
      (verified = true → 1 ≤ part → part ≤ 8 → ∀ k, k < 512 → t.store.array.images.read (imageBase slot part + k) =
        ((imageSector (s.tables.bank bank) part)[k]?).getD Config.erased) ∧
      (verified = true → part = 9 → ∀ w, s.store.array.headers[slot] = .written w → w.wellFormed = true →
        w.label = label → w.generation = g → w.length = word (s.tables.bank bank).order.length →
        w.definedSteps = word (s.tables.bank bank).definedSteps →
        ∃ v, t.store.array.headers[slot] = .written v ∧ (HeaderSector.written v).condition = .committed ∧
          v.matchesImage (imageWords (s.tables.bank bank)) = true) ∧
      (verified = false → (s.store.array.headers[slot]).condition ≠ .committed →
        (t.store.array.headers[slot]).condition ≠ .committed) ∧
      (if verified = true ∧ part = 9 then
        operationEnds .ok s t ∧ t.store.directory[slot] = { state := .valid, label := label, generation := g }
      else if verified = true ∧ s.store.abortPending = false then
        operationGoesOn (.save slot source bank label g (.programming (part + 1))) s t
      else operationEnds (if verified = true then .aborted else .programFailed) s t ∧
        t.store.directory[slot] = { state := .damaged, label := 0, generation := 0 }) ∧
      t = { s with
        store := { s.store with
          array := { s.store.array with headers := t.store.array.headers, images := t.store.array.images }
          directory := t.store.directory
          job := t.store.job
          outcome := t.store.outcome
          abortPending := t.store.abortPending
          quiet := t.store.quiet }
        status := { s.status with flags := t.status.flags }
        freeCount := t.freeCount }) ∧
  (∀ (s : State) (boot : Option (Fin 6)) (auto : Autorun) (target : Fin 2) (verified : Bool), s.inReset = false →
    s.store.job = .setStartup boot auto target .programming →
    ∃ t, exec (.programStepDone verified) s = .next t ∧
      operationEnds (if verified = true then .ok else .programFailed) s t ∧
      (∀ copy : Fin 2, copy ≠ target → t.store.array.startups[copy] = s.store.array.startups[copy]) ∧
      (verified = true →
        t.store.current = { generation := s.store.current.generation + 1, bootSlot := boot, autorun := auto } ∧
        t.store.currentCopy = some target ∧ (t.store.array.startups[target]).judge = some t.store.current) ∧
      (verified = false → t.store.current = s.store.current ∧ t.store.currentCopy = s.store.currentCopy ∧
        (t.store.array.startups[target]).judge = none) ∧
      t = { s with
        store := { s.store with
          array := { s.store.array with startups := t.store.array.startups }
          current := t.store.current
          currentCopy := t.store.currentCopy
          job := t.store.job
          outcome := t.store.outcome
          abortPending := t.store.abortPending
          quiet := t.store.quiet }
        status := { s.status with flags := t.status.flags } })

/-- A LOAD of a slot that holds a saved bank, through its nine sector reads, ends OK with the staging bank exactly the saved
one, INCOMPLETE clear and the slot as it was; the active bank is untouched (R156). After its last read a LOAD ends OK exactly
when the header is a committed body (the commit word by log 10), its check value matches the words read, no area was marked,
and as many areas made entries defined as it declares; else it ends CHECK_FAILED with the slot DAMAGED and INCOMPLETE set. With
an abort pending and reads left it ends ABORTED (R159, R160): the slot and INCOMPLETE as they were, the staging length kept,
and of the staging steps only those changed whose areas' last words the read in flight brought (log 11). An end sets
STORE_DONE, but not after a SOFT_RESET (R165). That the unused words of a step area read erased is the model's choice
(log 9). -/
def Obligations.LoadRestoresSavedBank : Prop :=
  (∀ (s : State) (slot : Fin 6) (b : Bank) (label : Word) (g : BitVec 32), s.inReset = false → s.store.boot = .done →
    b.wf → s.store.job = .load (freshLoad slot) → s.store.abortPending = false → holdsBank slot b label g s →
    ∃ t, runAll (List.replicate 9 .sectorReadDone) s = .next t ∧
      stagingBank t = b ∧ activeBank t = activeBank s ∧ t.tables.incomplete = false ∧ operationEnds .ok s t ∧
      t.store.directory = s.store.directory ∧ t.store.array = s.store.array) ∧
  (∀ (s : State) (p : LoadProgress) (words : List Word), s.inReset = false → s.store.boot = .done →
    s.store.job = .load p → p.sectorsRead = 8 →
    words = p.words ++ s.store.array.images.slice (imageBase p.slot 8) 512 →
    ∃ t, exec .sectorReadDone s = .next t ∧ activeBank t = activeBank s ∧ t.tables.active = s.tables.active ∧
      t.tables.commitPending = s.tables.commitPending ∧
      (readingMatches p words → operationEnds .ok s t ∧ t.tables.incomplete = false ∧
        t.store.directory = s.store.directory) ∧
      (¬readingMatches p words → operationEnds .checkFailed s t ∧ t.tables.incomplete = s.tables.incomplete ∧
        t.store.directory = s.store.directory.set p.slot { state := .damaged, label := 0, generation := 0 }) ∧
      t = { s with
        tables := t.tables
        store := { s.store with
          directory := t.store.directory
          job := t.store.job
          outcome := t.store.outcome
          abortPending := t.store.abortPending
          quiet := t.store.quiet }
        status := { s.status with flags := t.status.flags } }) ∧
  (∀ (s : State) (p : LoadProgress), s.inReset = false → s.store.boot = .done → s.store.job = .load p →
    p.sectorsRead < 8 → s.store.abortPending = true →
    ∃ t, exec .sectorReadDone s = .next t ∧ operationEnds .aborted s t ∧ activeBank t = activeBank s ∧
      t.tables.active = s.tables.active ∧ t.tables.commitPending = s.tables.commitPending ∧
      t.tables.incomplete = s.tables.incomplete ∧ (stagingBank t).order = (stagingBank s).order ∧
      (∀ i : Fin 128, (28 * (i.val + 1) ≤ p.words.length ∨ p.words.length + 512 < 28 * (i.val + 1)) →
        (stagingBank t).steps[i] = (stagingBank s).steps[i]) ∧
      (p.sectorsRead = 0 → t.tables = s.tables) ∧
      t = { s with
        tables := t.tables
        store := { s.store with
          job := t.store.job
          outcome := t.store.outcome
          abortPending := t.store.abortPending
          quiet := t.store.quiet }
        status := { s.status with flags := t.status.flags } })

/-- The start-up scan, one sector read at a time (R161): a blank header makes its slot EMPTY, a header that is uncommitted or
unreadable makes it DAMAGED, and the scan goes on; a committed one is followed by its eight image sectors, and after the
eighth the slot is VALID under its header's label and generation when the check value matches, else DAMAGED. After the two
start-up copies the current record is chosen (R149), and the boot ends NOT_SET, SLOT_EMPTY or SLOT_DAMAGED with BOOT_DONE, or
loads the boot slot (R162). A load of a saved bank, through its nine sector reads, ends INVALID with the image in the staging
bank when validation fails, else LOADED: the banks swapped, COMMIT_TAKEN and BOOT_DONE set, and with an autorun mode a run
started in it from 0/1. A load whose check fails ends CHECK_FAILED with the slot DAMAGED and INCOMPLETE as it was. That the
unused words of a step area read erased is the model's choice (log 9). -/
def Obligations.ScanJudgesSlots : Prop :=
  (∀ (s : State) (slot : Fin 6), s.inReset = false → s.store.boot = .scanHeader slot →
    ∃ t, exec .sectorReadDone s = .next t ∧
      (if (s.store.array.headers[slot]).condition = .committed then
        t.store.directory = s.store.directory ∧ ∃ w, s.store.array.headers[slot] = .written w ∧
          t.store.boot = .scanImage slot w 0 []
      else
        t.store.directory = s.store.directory.set slot
            { state := if (s.store.array.headers[slot]).condition = .blank then .empty else .damaged
              label := 0, generation := 0 } ∧
          t.store.boot = (if h : slot.val + 1 < 6 then .scanHeader ⟨slot.val + 1, h⟩ else .scanStartup54)) ∧
      t = { s with store := { s.store with directory := t.store.directory, boot := t.store.boot } }) ∧
  (∀ (s : State) (slot : Fin 6) (w : HeaderWords) (n : Nat) (words : List Word), s.inReset = false →
    s.store.boot = .scanImage slot w n words →
    (n < 7 → exec .sectorReadDone s = .next { s with store := { s.store with
      boot := .scanImage slot w (n + 1) (words ++ s.store.array.images.slice (4096 * slot.val + 512 * n) 512) } }) ∧
    (n = 7 → exec .sectorReadDone s = .next { s with store := { s.store with
      directory := s.store.directory.set slot
        (if w.matchesImage (words ++ s.store.array.images.slice (4096 * slot.val + 3584) 512) = true then
          { state := .valid, label := w.label, generation := w.generation }
        else { state := .damaged, label := 0, generation := 0 })
      boot := if h : slot.val + 1 < 6 then .scanHeader ⟨slot.val + 1, h⟩ else .scanStartup54 } })) ∧
  (∀ s : State, s.inReset = false → s.store.boot = .scanStartup54 →
    exec .sectorReadDone s = .next { s with store := { s.store with
      boot := .scanStartup55 (s.store.array.startups[0]).judge } }) ∧
  (∀ (s : State) (first : Option StartupRecord) (cur : StartupRecord) (copy : Option (Fin 2)), s.inReset = false →
    s.store.boot = .scanStartup55 first →
    (match first, (s.store.array.startups[1]).judge with
      | none, none => cur = { generation := 0, bootSlot := none, autorun := .off } ∧ copy = none
      | some a, none => cur = a ∧ copy = some 0
      | none, some b => cur = b ∧ copy = some 1
      | some a, some b =>
        if b.generation = a.generation + 1 ∨
          (a.generation ≠ b.generation + 1 ∧ a.generation.toNat < b.generation.toNat) then cur = b ∧ copy = some 1
        else cur = a ∧ copy = some 0) →
    (∀ o : BootOutcome, ((o = .notSet ∧ cur.bootSlot = none) ∨
        (o = .slotEmpty ∧ ∃ slot, cur.bootSlot = some slot ∧ (s.store.directory[slot]).state = .empty) ∨
        (o = .slotDamaged ∧ ∃ slot, cur.bootSlot = some slot ∧ (s.store.directory[slot]).state = .damaged)) →
      exec .sectorReadDone s = .next { s with
        store := { s.store with current := cur, currentCopy := copy, boot := .done, bootOutcome := o }
        status := { s.status with flags := s.status.flags ||| bootDoneFlag } }) ∧
    (∀ slot : Fin 6, cur.bootSlot = some slot → (s.store.directory[slot]).state = .valid →
      exec .sectorReadDone s = .next { s with
        tables := { s.tables with incomplete := true }
        store := { s.store with current := cur, currentCopy := copy, boot := .load (freshLoad slot) } })) ∧
  (∀ (s : State) (slot : Fin 6) (b : Bank) (label : Word) (g : BitVec 32), s.inReset = false → b.wf →
    s.store.boot = .load (freshLoad slot) → holdsBank slot b label g s →
    (b.validate ≠ none → ∃ t, runAll (List.replicate 9 .sectorReadDone) s = .next t ∧
      stagingBank t = b ∧ activeBank t = activeBank s ∧ t.tables.active = s.tables.active ∧
      t.tables.commitPending = s.tables.commitPending ∧ t.tables.incomplete = false ∧
      t = { s with
        tables := t.tables
        store := { s.store with boot := .done, bootOutcome := .invalid }
        status := { s.status with flags := s.status.flags ||| bootDoneFlag } }) ∧
    (b.validate = none → s.port.kind ≠ .read → ∃ u : State,
      activeBank u = b ∧ stagingBank u = activeBank s ∧ u.tables.active = s.tables.active.other ∧
      u.tables.commitPending = false ∧ u.tables.incomplete = false ∧
      u = { s with
        tables := u.tables
        seq := { s.seq with position := 0, repetition := 1 }
        store := { s.store with boot := .done, bootOutcome := .loaded }
        status := { s.status with flags := s.status.flags ||| commitTakenFlag ||| bootDoneFlag } } ∧
      runAll (List.replicate 9 .sectorReadDone) s = .next (
        if s.store.current.autorun = .off then u
        else makeEntry { u with
          triggers := { u.triggers with queue := [] }
          seq := { u.seq with
            mode := if s.store.current.autorun = .onePass then .onePass else .continuous
            passesRequested := if s.store.current.autorun = .onePass then 1 else u.seq.passesRequested
            passesTaken := 0
            stopReason := .none
            pauseRequest := false
            passCount := 0
            sequence := 0 } }))) ∧
  (∀ (s : State) (slot : Fin 6) (w : HeaderWords), s.inReset = false → s.store.boot = .load (freshLoad slot) →
    s.store.array.headers[slot] = .written w →
    w.matchesImage (s.store.array.images.slice (4096 * slot.val) 4096) = false →
    ∃ t, runAll (List.replicate 9 .sectorReadDone) s = .next t ∧
      activeBank t = activeBank s ∧ t.tables.active = s.tables.active ∧
      t.tables.commitPending = s.tables.commitPending ∧ t.tables.incomplete = s.tables.incomplete ∧
      t = { s with
        tables := t.tables
        store := { s.store with
          directory := s.store.directory.set slot { state := .damaged, label := 0, generation := 0 }
          boot := .done
          bootOutcome := .checkFailed }
        status := { s.status with flags := s.status.flags ||| bootDoneFlag } })

/-- A stored word that changes without an operation (R146): a word of an image reads with the changed bits and every
other word as before, and a check value that matched the image matches it no longer; a change of any programmed word
of a slot's header leaves it no longer both committed and matching, so the next scan or LOAD finds it, and a change of
any word of a valid start-up copy leaves it no longer valid (R149); and nothing outside the array changes. A header
all of whose words read erased is blank; one with a well-formed body is committed or uncommitted by its commit word,
whatever its check value; any other is unreadable (log 6 says what reads erased when all named words do and a check
value has been programmed). That L and the number of defined steps stand in a header as plain numbers of one word is
the model's choice (log 25), and so is that a sector that is erased or spoiled stays as it is (log 20). -/
def Obligations.StoredWordChangeIsFound : Prop :=
  (∀ (s : State) (slot : Fin 6) (index : Fin 4096) (flip : Word),
    ∃ t, exec (.storedWordChange (.image slot index) flip) s = .next t ∧
      t.store.array.images.read (4096 * slot.val + index.val) =
        s.store.array.images.read (4096 * slot.val + index.val) ^^^ flip ∧
      (∀ a : Nat, a ≠ 4096 * slot.val + index.val →
        t.store.array.images.read a = s.store.array.images.read a) ∧
      (∀ w : HeaderWords, flip ≠ 0 → w.matchesImage (s.store.array.images.slice (4096 * slot.val) 4096) = true →
        w.matchesImage (t.store.array.images.slice (4096 * slot.val) 4096) = false) ∧
      t = { s with store := { s.store with array := { s.store.array with images := t.store.array.images } } }) ∧
  (∀ (s : State) (slot : Fin 6) (field : HeaderField) (flip : Word) (w : HeaderWords) (image : List Word),
    s.store.array.headers[slot] = .written w → flip ≠ 0 → (HeaderSector.written w).condition = .committed →
    w.matchesImage image = true →
    ∃ t v, exec (.storedWordChange (.header slot field) flip) s = .next t ∧
      t.store.array.headers[slot] = .written v ∧
      ((HeaderSector.written v).condition ≠ .committed ∨ v.matchesImage image = false) ∧
      t = { s with store := { s.store with array := { s.store.array with headers := t.store.array.headers } } }) ∧
  (∀ (s : State) (copy : Fin 2) (field : StartupField) (flip : Word) (w : StartupWords) (r : StartupRecord),
    s.store.array.startups[copy] = .written w → flip ≠ 0 → (StartupSector.written w).judge = some r →
    ∃ t v, exec (.storedWordChange (.startup copy field) flip) s = .next t ∧
      t.store.array.startups[copy] = .written v ∧ (StartupSector.written v).judge = none ∧
      t = { s with store := { s.store with array := { s.store.array with startups := t.store.array.startups } } }) ∧
  (∀ (s : State) (slot : Fin 6) (copy : Fin 2) (hf : HeaderField) (sf : StartupField) (flip : Word),
    (s.store.array.headers[slot] = .blank ∨ s.store.array.headers[slot] = .spoiled →
      exec (.storedWordChange (.header slot hf) flip) s = .next s) ∧
    (s.store.array.startups[copy] = .blank ∨ s.store.array.startups[copy] = .spoiled →
      exec (.storedWordChange (.startup copy sf) flip) s = .next s)) ∧
  (∀ w : HeaderWords, (w.marker = Config.erased → w.label = Config.erased →
      w.generation = Config.erased ++ Config.erased → w.length = Config.erased → w.definedSteps = Config.erased →
      w.commit = Config.erased → w.check = none) → (HeaderSector.written w).condition =
    (if w.marker = Config.erased ∧ w.label = Config.erased ∧ w.generation = Config.erased ++ Config.erased ∧
        w.length = Config.erased ∧ w.definedSteps = Config.erased ∧ w.commit = Config.erased then .blank
      else if w.marker = Config.bodyMarker ∧ w.length.toNat ≤ 512 ∧ w.definedSteps.toNat ≤ 128 then
        (if w.commit = Config.commitWord then .committed else .uncommitted)
      else .unreadable))

/-! ### Commands, status and the register window (09, 10) -/

/-- The status and policy registers: a write to STATUS_FLAGS clears the flags whose bits are 1 (R176); IRQ_ENABLE takes its
fourteen enables, on which IRQn follows at once (R178, R179); REC_THRESHOLD takes 1 to 32 (R124); POLICY, in STOPPED,
takes its fields, a guard field of 3 leaving the guard policy with WRITE_IGNORED, and in any other state is ignored whole
with WRITE_IGNORED (R64, R95, R119). -/
def Obligations.StatusAndPolicyWrites : Prop :=
  ∀ (s : State) (w : Word), s.inReset = false →
    exec (.statusFlagsWrite w) s = .next { s with status := { s.status with flags := s.status.flags &&& ~~~w } } ∧
    (∃ t, exec (.irqEnableWrite w) s = .next t ∧ t = { s with status := { s.status with irqEnable := w &&& 0x9FFF } } ∧
      (irqAsserted t = true ↔ ∃ i : Fin 16, i.val ≠ 13 ∧ i.val ≠ 14 ∧ bit w i.val = true ∧
        (bit s.status.flags i.val = true ∨ (i.val = 15 ∧ s.records.threshold.toNat ≤ s.records.queue.length)))) ∧
    exec (.recThresholdWrite w) s = .next (if 1 ≤ w.toNat ∧ w.toNat ≤ 32 then
        { s with records := { s.records with threshold := w } }
      else { s with status := { s.status with flags := s.status.flags ||| writeIgnoredFlag } }) ∧
    (s.seq.state ≠ .stopped → exec (.policyWrite w) s =
      .next { s with status := { s.status with flags := s.status.flags ||| writeIgnoredFlag } }) ∧
    (s.seq.state = .stopped → ∃ t, exec (.policyWrite w) s = .next t ∧
      (w.toNat % 4 < 3 → policyWord t = w &&& 0x001F ∧ t.status = s.status) ∧
      (w.toNat % 4 = 3 → t.policy.guardPolicy = s.policy.guardPolicy ∧ policyWord t &&& 0x001C = w &&& 0x001C ∧
        t.status = { s.status with flags := s.status.flags ||| writeIgnoredFlag }) ∧
      t = { s with policy := t.policy, status := t.status })

/-- A write at any other address of the window (R181): the read-write registers take a value in their range, and a
read then returns it; nothing else changes, an open holdoff window and a running hold timer included (R60, R23); a
value out of range is ignored with WRITE_IGNORED; read-only registers and the unused addresses ignore writes without a
flag (R58, R60, R71, R77, R79, R86, R147, R166, R172). -/
def Obligations.RegisterWrites : Prop :=
  ∀ (s : State) (w : Word), s.inReset = false →
    (∀ addr : BitVec 6, addr ∈ ([0x05, 0x06, 0x07, 0x08, 0x13, 0x14, 0x15, 0x16, 0x17, 0x18] : List (BitVec 6)) →
      ∃ t, exec (.registerWrite addr w) s = .next t ∧ readRegister addr t = w ∧ t.status = s.status ∧
        (∀ other : BitVec 6, other ≠ addr → readRegister other t = readRegister other s)) ∧
    (∀ (i : Fin 4) (addr : BitVec 6), addr.toNat = 5 + i.val → exec (.registerWrite addr w) s =
      .next { s with cmd := { s.cmd with arg := s.cmd.arg.set i w } }) ∧
    (∀ (i : Fin 4) (addr : BitVec 6), addr.toNat = 19 + i.val → exec (.registerWrite addr w) s =
      .next { s with triggers := { s.triggers with
        inputs := s.triggers.inputs.set i { s.triggers.inputs[i] with holdoff := w } } }) ∧
    exec (.registerWrite 0x17 w) s = .next { s with triggers := { s.triggers with lateTolerance := w } } ∧
    exec (.registerWrite 0x18 w) s = .next { s with seq := { s.seq with holdTimeout := w } } ∧
    (∃ t, exec (.registerWrite 0x12 w) s = .next t ∧ readRegister 0x12 t = w &&& 0x00FF ∧
      (∀ i : Fin 4, { t.triggers.inputs[i] with select := (s.triggers.inputs[i]).select } = s.triggers.inputs[i]) ∧
      t = { s with triggers := { s.triggers with inputs := t.triggers.inputs } }) ∧
    exec (.registerWrite 0x1C w) s = .next (if h : w.toNat < 8 then
        { s with channels := { s.channels with select := ⟨w.toNat, h⟩ } }
      else { s with status := { s.status with flags := s.status.flags ||| writeIgnoredFlag } }) ∧
    exec (.registerWrite 0x1D w) s = .next (if 1 ≤ w.toNat ∧ w.toNat ≤ 256 then
        { s with channels := { s.channels with
          channel := s.channels.channel.set s.channels.select { s.channels.channel[s.channels.select] with trim := w } } }
      else { s with status := { s.status with flags := s.status.flags ||| writeIgnoredFlag } }) ∧
    exec (.registerWrite 0x1F w) s = .next (if w.toNat ≤ 4095 then
        { s with channels := { s.channels with
          channel := s.channels.channel.set s.channels.select { s.channels.channel[s.channels.select] with rate := w } } }
      else { s with status := { s.status with flags := s.status.flags ||| writeIgnoredFlag } }) ∧
    exec (.registerWrite 0x30 w) s = .next (if h : w.toNat < 6 then
        { s with store := { s.store with dirSelect := ⟨w.toNat, h⟩ } }
      else { s with status := { s.status with flags := s.status.flags ||| writeIgnoredFlag } }) ∧
    exec (.registerWrite 0x35 w) s = .next (if h : w.toNat < 9 then
        { s with counters := { s.counters with select := ⟨w.toNat, h⟩ } }
      else { s with status := { s.status with flags := s.status.flags ||| writeIgnoredFlag } }) ∧
    (∀ addr : BitVec 6, addr ∈ ([0x00, 0x01, 0x03, 0x04, 0x0B, 0x0C, 0x0D, 0x0E, 0x0F, 0x11, 0x1B, 0x20, 0x22, 0x24, 0x25,
        0x26, 0x27, 0x28, 0x29, 0x2A, 0x2B, 0x2C, 0x2D, 0x2E, 0x2F, 0x31, 0x32, 0x33, 0x34, 0x36, 0x37, 0x38, 0x39, 0x3A,
        0x3B, 0x3C, 0x3D, 0x3E, 0x3F] : List (BitVec 6)) → exec (.registerWrite addr w) s = .next s)

/-- What the status registers and the pins show outside reset. The fields stand at the bits of 10.3, with its codes:
DEVICE_STATUS (R174), SEQ_INFO (R23), TP_STATUS with no table and no bank in session NONE (R128, R141, R184),
CH_ENABLE and CH_LOCKED (R78, R97), SYNC_CONFIG with its busy bits (R104), REC_COUNT (R118), STORE_STATUS (R151),
STORE_DIR (R147), BOOT_INFO (R149, R162) and RECORD_READY in STATUS_FLAGS (R124, R175); a hold reason outside HELD
reads 0 (R23). The repetition, the word position and the records queued are supposed in their ranges (R23, R128,
R118). GATEn is active, with the level on LVLn, exactly while the channel is LIT, and LVLn is else 0 (R76); SYNCn is
at its active level exactly while its output is ACTIVE and enabled (R103). -/
def Obligations.RegistersAndPinsShowState : Prop :=
  (∀ (s : State) (w : Word), s.inReset = false → w = readRegister 0x01 s →
    (bit w 15 = true ↔ s.store.boot ≠ .done) ∧ (bit w 10 = true ↔ s.store.job ≠ .idle) ∧
    (bit w 7 = true ↔ s.tables.incomplete = true) ∧ (bit w 6 = true ↔ s.tables.commitPending = true) ∧
    bits w 9 8 = sessionCode s.port.kind ∧ bits w 5 4 = shownHold s ∧ bits w 2 0 = stateCode s.seq.state ∧
    bits w 14 11 = 0 ∧ bit w 3 = false) ∧
  (∀ (s : State) (w : Word), s.inReset = false → 1 ≤ s.seq.repetition → s.seq.repetition ≤ 16 → w = readRegister 0x0F s →
    (bit w 14 = true ↔ s.seq.pauseRequest = true) ∧ bits w 13 10 + 1 = s.seq.repetition ∧
    bits w 9 8 = (match s.seq.mode with
      | .onePass => 0
      | .passes => 1
      | .continuous => 2
      | .manual => 3) ∧
    bits w 7 5 = (match s.seq.stopReason with
      | .none => 0
      | .host => 1
      | .finished => 2
      | .channelFault => 3
      | .creditAbort => 4
      | .holdTimeout => 5
      | .reset => 6) ∧
    bits w 4 3 = shownHold s ∧ bits w 2 0 = stateCode s.seq.state ∧ bit w 15 = false) ∧
  (∀ (s : State) (w : Word), s.inReset = false → s.port.wordPos ≤ 27 → w = readRegister 0x11 s →
    bits w 12 9 = (match s.port.lastError with
      | .none => 0
      | .partialRecord => 1
      | .badHeader => 2
      | .badField => 3
      | .duplicate => 4
      | .tableFull => 5
      | .wrongDirection => 6
      | .noSession => 7
      | .sessionEnded => 8) ∧
    bits w 8 4 = s.port.wordPos ∧ (bit w 3 = true ↔ s.port.kind ≠ .none ∧ s.port.bank = .staging) ∧
    (bit w 2 = true ↔ s.port.kind ≠ .none ∧ s.port.table = .order) ∧ bits w 1 0 = sessionCode s.port.kind ∧
    bits w 15 13 = 0) ∧
  (∀ s : State, s.inReset = false →
    (∀ i : Fin 8, (bit (readRegister 0x1A s) i.val = true ↔ (s.channels.channel[i]).enabled = true) ∧
      (bit (readRegister 0x1B s) i.val = true ↔ (s.channels.channel[i]).locked = true)) ∧
    bits (readRegister 0x1A s) 15 8 = 0 ∧ bits (readRegister 0x1B s) 15 8 = 0 ∧
    (∀ i : Fin 4, (bit (readRegister 0x21 s) i.val = true ↔ (s.syncs[i]).polarity = .activeLow) ∧
      (bit (readRegister 0x21 s) (4 + i.val) = true ↔ (s.syncs[i]).enabled = true) ∧
      (bit (readRegister 0x21 s) (8 + i.val) = true ↔ (s.syncs[i]).pulse ≠ .idle)) ∧
    bits (readRegister 0x21 s) 15 12 = 0 ∧
    (s.records.queue.length ≤ 32 → bits (readRegister 0x22 s) 5 0 = s.records.queue.length ∧
      (bit (readRegister 0x22 s) 8 = true ↔ s.records.reserved = true) ∧ bits (readRegister 0x22 s) 7 6 = 0 ∧
      bits (readRegister 0x22 s) 15 9 = 0) ∧
    readRegister 0x09 s = (if s.records.threshold.toNat ≤ s.records.queue.length then s.status.flags ||| 0x8000
      else s.status.flags)) ∧
  (∀ (s : State) (w : Word), s.inReset = false → w = readRegister 0x2E s →
    (bit w 15 = true ↔ s.store.job ≠ .idle) ∧
    bits w 11 9 = (match s.store.outcome with
      | .ok => 0
      | .aborted => 1
      | .eraseFailed => 2
      | .programFailed => 3
      | .checkFailed => 4) ∧
    (bit w 8 = true ↔ s.store.abortPending = true) ∧ bits w 7 5 = s.store.slot.toNat ∧
    bits w 4 3 = (match s.store.job with
      | .idle => 0
      | .save _ _ _ _ _ (.erasing _ _) => 1
      | .save _ _ _ _ _ (.programming _) => 2
      | .load _ => 3
      | .erase _ _ _ => 1
      | .setStartup _ _ _ (.erasing _) => 1
      | .setStartup _ _ _ .programming => 2) ∧
    bits w 2 0 = (match s.store.operation with
      | .none => 0
      | .save => 1
      | .load => 2
      | .erase => 3
      | .setStartup => 4) ∧
    bits w 14 12 = 0) ∧
  (∀ s : State, s.inReset = false →
    (∀ i : Fin 6, bits (readRegister 0x2F s) (2 * i.val + 1) (2 * i.val) = (match (s.store.directory[i]).state with
      | .empty => 0
      | .valid => 1
      | .damaged => 2
      | .writing => 3)) ∧
    bits (readRegister 0x2F s) 15 12 = 0 ∧
    bits (readRegister 0x34 s) 9 8 = (match s.store.current.autorun with
      | .off => 0
      | .onePass => 1
      | .continuous => 2) ∧
    bits (readRegister 0x34 s) 6 4 = (match s.store.current.bootSlot with
      | some slot => slot.val
      | none => 7) ∧
    bits (readRegister 0x34 s) 2 0 = (match s.store.bootOutcome with
      | .notSet => 0
      | .loaded => 1
      | .slotEmpty => 2
      | .slotDamaged => 3
      | .checkFailed => 4
      | .invalid => 5) ∧
    bits (readRegister 0x34 s) 15 10 = 0 ∧ bit (readRegister 0x34 s) 7 = false ∧ bit (readRegister 0x34 s) 3 = false) ∧
  (∀ s : State, s.inReset = false →
    (∀ n : Fin 8, (gatePin n s = true ↔ (s.channels.channel[n]).gate.isSome = true) ∧
      (∀ g, (s.channels.channel[n]).gate = some g → levelPin n s = g.level) ∧
      ((s.channels.channel[n]).gate = none → levelPin n s = 0)) ∧
    (∀ i : Fin 4, syncPin i s = true ↔
      ((s.syncs[i]).polarity = .activeHigh ↔
        (s.syncs[i]).enabled = true ∧ ∃ kind finish, (s.syncs[i]).pulse = .active kind finish)))

/-! ### Resets -/

/-- SOFT_RESET (R170): the Sequencer is STOPPED with reason RESET at 0/1 with no record emitted, every gate is closed and
every pulse cut, the queues, the counters and the flags are cleared, the session ends, a pending commit is withdrawn, a
store operation is set to abort, which STORE_STATUS shows as pending (the model's choice, log 23), the port's start index is 0
(the model's choice, log 24); configuration, credits, locks, banks, the store and the timebase are kept (R22, R53, R73,
R102, R112, R126, R144, R165, R172, R177). -/
def Obligations.SoftResetActs : Prop :=
  ∀ s : State, commandable s →
    ∃ t, exec .softReset s = .next t ∧
      t.seq = { s.seq with
        state := .stopped
        hold := .none
        stopReason := .reset
        passesTaken := 0
        position := 0
        repetition := 1
        passCount := 0
        sequence := 0
        pauseRequest := false
        holdTimer := none
        context := none } ∧
      (∀ i : Fin 8, t.channels.channel[i] = { s.channels.channel[i] with gate := none }) ∧
      (∀ i : Fin 4, t.syncs[i] = { s.syncs[i] with pulse := .idle }) ∧
      (∀ i : Fin 9, t.counters.value[i] = 0) ∧
      t.port = { s.port with kind := .none, table := .steps, bank := .active, start := 0, assembly := [], written := 0
                             beyond := [], tableFull := false } ∧
      t = { s with
        seq := t.seq
        channels := { s.channels with channel := t.channels.channel }
        syncs := t.syncs
        triggers := { s.triggers with queue := [] }
        tables := { s.tables with commitPending := false }
        port := t.port
        records := { s.records with queue := [], reserved := false, waitingRequest := false }
        store := if s.store.job = .idle then s.store else { s.store with abortPending := true, quiet := true }
        cmd := { s.cmd with last := 0x3F, result := .accepted, detail := 0 }
        status := { s.status with flags := 0 }
        counters := { s.counters with value := t.counters.value } }

/-- Hardware reset sets every block to its value for hardware reset, whatever the part was doing, and keeps only the array
and the levels of the pins (R185 and the reset tables of each chapter). A sector step in flight is cut off (R164): only its
own sector changes; a header whose erase is cut off is as before, or blank or unreadable; one whose body's program is cut off
is neither committed nor blank; one at its commit word is as before, or has the check value and the commit word
programmed whole; a start-up copy being written is invalid or the completed new one; a LOAD leaves the array as
it was. When it ends, BOOTING begins with the scan's first slot (R161), and every channel whose fault line is asserted is locked
at once, with CHANNEL_FAULT set if there is one (R101). The model's choices: that a step may be complete but for its verify
(log 8), that the start index of no session is 0 (log 24), and the count of completions, its own (log 15). -/
def Obligations.HardwareResetAndItsEnd : Prop :=
  (∀ s : State, ∃ t, exec .hardwareReset s = .next t ∧
    (s.store.job = .idle ∨ loadInFlight s = true → t.store.array = s.store.array) ∧
    (∀ (slot : Fin 6) (sector : Nat), erasing slot sector s →
      t.store.array.startups = s.store.array.startups ∧
      (∀ j : Fin 6, (j ≠ slot ∨ sector ≠ 0) → t.store.array.headers[j] = s.store.array.headers[j]) ∧
      (sector = 0 → t.store.array.headers[slot] = s.store.array.headers[slot] ∨
        (t.store.array.headers[slot]).condition = .blank ∨ (t.store.array.headers[slot]).condition = .unreadable) ∧
      (∀ a : Nat, (sector = 0 ∨ a < imageBase slot sector ∨ imageBase slot sector + 512 ≤ a) →
        t.store.array.images.read a = s.store.array.images.read a)) ∧
    (∀ (slot : Fin 6) (source : BankRole) (bank : BankId) (label : Word) (g : BitVec 32) (part : Nat),
      s.store.job = .save slot source bank label g (.programming part) → part ≤ 9 →
      t.store.array.startups = s.store.array.startups ∧
      (∀ j : Fin 6, (j ≠ slot ∨ (1 ≤ part ∧ part ≤ 8)) → t.store.array.headers[j] = s.store.array.headers[j]) ∧
      (part = 0 → (t.store.array.headers[slot]).condition ≠ .committed ∧
        (t.store.array.headers[slot]).condition ≠ .blank) ∧
      (part = 9 → t.store.array.headers[slot] = s.store.array.headers[slot] ∨
        ∃ w, s.store.array.headers[slot] = .written w ∧ t.store.array.headers[slot] = .written { w with
          check := some (slotCheck (s.tables.bank bank) label g)
          commit := Config.commitWord }) ∧
      (∀ a : Nat, (part = 0 ∨ part = 9 ∨ a < imageBase slot part ∨ imageBase slot part + 512 ≤ a) →
        t.store.array.images.read a = s.store.array.images.read a)) ∧
    (∀ (boot : Option (Fin 6)) (auto : Autorun) (target : Fin 2) (progress : StartupProgress),
      s.store.job = .setStartup boot auto target progress →
      t.store.array.headers = s.store.array.headers ∧ t.store.array.images = s.store.array.images ∧
      (∀ copy : Fin 2, copy ≠ target → t.store.array.startups[copy] = s.store.array.startups[copy]) ∧
      ((t.store.array.startups[target]).judge = none ∨ (progress = .programming ∧
        (t.store.array.startups[target]).judge =
          some { generation := s.store.current.generation + 1, bootSlot := boot, autorun := auto }))) ∧
    (∀ i : Fin 4, t.triggers.inputs[i] = { select := .off, holdoff := 0, window := none
                                           level := (s.triggers.inputs[i]).level }) ∧
    (∀ i : Fin 8, t.channels.channel[i] =
      { enabled := false, locked := false, gate := none, trim := 256, ceiling := 65535, rate := 4095, credit := 65535
        faultLine := (s.channels.channel[i]).faultLine }) ∧
    t = { State.reset with
      inReset := true
      triggers := { State.reset.triggers with inputs := t.triggers.inputs }
      channels := { State.reset.channels with channel := t.channels.channel }
      store := { State.reset.store with array := t.store.array, boot := .done }
      readData := s.readData
      freeCount := t.freeCount
      pending := s.pending }) ∧
  (∀ s : State, s.inReset = true → (∀ i : Fin 8, (s.channels.channel[i]).faultLine = false) →
    exec .resetEnd s = .next { s with inReset := false, store := { s.store with boot := .scanHeader 0 } }) ∧
  (∀ s : State, s.inReset = true → s.seq.state = .stopped → s.seq.context = none →
    ∃ t, exec .resetEnd s = .next t ∧
      (∀ i : Fin 8, t.channels.channel[i] = (if (s.channels.channel[i]).faultLine = true then
          { s.channels.channel[i] with locked := true, gate := none }
        else s.channels.channel[i])) ∧
      t.status.flags = (if ∃ i : Fin 8, (s.channels.channel[i]).faultLine = true then
          s.status.flags ||| channelFaultFlag
        else s.status.flags) ∧
      t = { s with
        inReset := false
        store := { s.store with boot := .scanHeader 0 }
        channels := { s.channels with channel := t.channels.channel }
        status := { s.status with flags := t.status.flags } })

/-! ### Invariants -/

/-- The state at the end of hardware reset is safe. That its pins are low and its array blank is the model's choice
(log 5). -/
def Obligations.ResetIsSafe : Prop := Inv State.reset

/-- Every step keeps every channel's account in its range, its credit between 0 and its ceiling (R83), and its gate open
only while it is enabled and not locked, at a level from 1 (R74, R76); and outside reset a channel whose fault line is
asserted is locked (R96, R100). -/
def Obligations.StepKeepsChannelsSafe : Prop :=
  ∀ s t : State, channelsSafe s → step s = .next t → channelsSafe t

/-- Every step keeps the canonical form of the store images' memory: addresses rise strictly, and no entry holds the word that
an unlisted address reads as. That form is the model's own representation of the image sectors, no rule of the spec
(the model's choice, log 7). -/
def Obligations.StepKeepsMemoryCanonical : Prop :=
  ∀ s t : State, memorySafe s → step s = .next t → memorySafe t

/-- Every step keeps a safe state safe: the channels (R74, R83), the gates and pulses of the step in progress (R37 to R39),
the Trigger Queue's bound (R65), the Record Queue's 32 places and its reservation (R118, R120), the cursor (R25), the
active bank and a pending commit (R9, R15), the tables' ranges (R2 to R7), the directory (R147), and the relations of
every record (R117). -/
def Obligations.StepKeepsInvariant : Prop := ∀ s t : State, Inv s → step s = .next t → Inv t

/-! ### Encodings -/

/-- The words of every well-formed step record decode to that record, whatever stands behind them in a step area, and the
word of every order entry to that entry; the words of a record are as many as its header declares (10.4, R2, R138). -/
def Obligations.TableEncodingsAgree : Prop :=
  (∀ (r : StepRecord) (unused : List Word), r.wf = true → decodeRecord (encodeRecord r ++ unused) = .ok r ∧
    (encodeRecord r).length = 4 + 2 * r.channels.length + 2 * r.syncs.length ∧
    ∃ header ws, encodeRecord r = header :: ws ∧ declaredLength header = (encodeRecord r).length ∧
      headerLegal header = true) ∧
  (∀ e : OrderEntry, decodeOrder (encodeOrder e) = e) ∧
  (∀ (ws : List Word) (r : StepRecord), decodeRecord ws = .ok r → r.wf = true)
end

