-- ==== Sys2Proof/Laws/State.lean ====
section
/-! SUPPORT. The fields of the state after each named update: one lemma per field, so that no proof unfolds an update. -/
namespace Sys2Proof.Machine

/-! ### raise -/
@[simp] theorem raise_inReset (flag : Word) (s : State) : (raise flag s).inReset = s.inReset := rfl
@[simp] theorem raise_timebase (flag : Word) (s : State) : (raise flag s).timebase = s.timebase := rfl
@[simp] theorem raise_triggers (flag : Word) (s : State) : (raise flag s).triggers = s.triggers := rfl
@[simp] theorem raise_channels (flag : Word) (s : State) : (raise flag s).channels = s.channels := rfl
@[simp] theorem raise_syncs (flag : Word) (s : State) : (raise flag s).syncs = s.syncs := rfl
@[simp] theorem raise_seq (flag : Word) (s : State) : (raise flag s).seq = s.seq := rfl
@[simp] theorem raise_tables (flag : Word) (s : State) : (raise flag s).tables = s.tables := rfl
@[simp] theorem raise_port (flag : Word) (s : State) : (raise flag s).port = s.port := rfl
@[simp] theorem raise_records (flag : Word) (s : State) : (raise flag s).records = s.records := rfl
@[simp] theorem raise_store (flag : Word) (s : State) : (raise flag s).store = s.store := rfl
@[simp] theorem raise_policy (flag : Word) (s : State) : (raise flag s).policy = s.policy := rfl
@[simp] theorem raise_cmd (flag : Word) (s : State) : (raise flag s).cmd = s.cmd := rfl
@[simp] theorem raise_status (flag : Word) (s : State) :
    (raise flag s).status = { s.status with flags := s.status.flags ||| flag } := rfl
@[simp] theorem raise_counters (flag : Word) (s : State) : (raise flag s).counters = s.counters := rfl
@[simp] theorem raise_readData (flag : Word) (s : State) : (raise flag s).readData = s.readData := rfl
@[simp] theorem raise_freeCount (flag : Word) (s : State) : (raise flag s).freeCount = s.freeCount := rfl
@[simp] theorem raise_pending (flag : Word) (s : State) : (raise flag s).pending = s.pending := rfl

/-! ### countUp -/
@[simp] theorem countUp_inReset (i : Fin 9) (n : Nat) (s : State) : (countUp i n s).inReset = s.inReset := rfl
@[simp] theorem countUp_timebase (i : Fin 9) (n : Nat) (s : State) : (countUp i n s).timebase = s.timebase := rfl
@[simp] theorem countUp_triggers (i : Fin 9) (n : Nat) (s : State) : (countUp i n s).triggers = s.triggers := rfl
@[simp] theorem countUp_channels (i : Fin 9) (n : Nat) (s : State) : (countUp i n s).channels = s.channels := rfl
@[simp] theorem countUp_syncs (i : Fin 9) (n : Nat) (s : State) : (countUp i n s).syncs = s.syncs := rfl
@[simp] theorem countUp_seq (i : Fin 9) (n : Nat) (s : State) : (countUp i n s).seq = s.seq := rfl
@[simp] theorem countUp_tables (i : Fin 9) (n : Nat) (s : State) : (countUp i n s).tables = s.tables := rfl
@[simp] theorem countUp_port (i : Fin 9) (n : Nat) (s : State) : (countUp i n s).port = s.port := rfl
@[simp] theorem countUp_records (i : Fin 9) (n : Nat) (s : State) : (countUp i n s).records = s.records := rfl
@[simp] theorem countUp_store (i : Fin 9) (n : Nat) (s : State) : (countUp i n s).store = s.store := rfl
@[simp] theorem countUp_policy (i : Fin 9) (n : Nat) (s : State) : (countUp i n s).policy = s.policy := rfl
@[simp] theorem countUp_cmd (i : Fin 9) (n : Nat) (s : State) : (countUp i n s).cmd = s.cmd := rfl
@[simp] theorem countUp_status (i : Fin 9) (n : Nat) (s : State) : (countUp i n s).status = s.status := rfl
@[simp] theorem countUp_counters (i : Fin 9) (n : Nat) (s : State) :
    (countUp i n s).counters = { s.counters with value := s.counters.value.set i (satAdd s.counters.value[i] n) } := rfl
@[simp] theorem countUp_readData (i : Fin 9) (n : Nat) (s : State) : (countUp i n s).readData = s.readData := rfl
@[simp] theorem countUp_freeCount (i : Fin 9) (n : Nat) (s : State) : (countUp i n s).freeCount = s.freeCount := rfl
@[simp] theorem countUp_pending (i : Fin 9) (n : Nat) (s : State) : (countUp i n s).pending = s.pending := rfl

/-! ### zeroCounters -/
@[simp] theorem zeroCounters_inReset (s : State) : (zeroCounters s).inReset = s.inReset := rfl
@[simp] theorem zeroCounters_timebase (s : State) : (zeroCounters s).timebase = s.timebase := rfl
@[simp] theorem zeroCounters_triggers (s : State) : (zeroCounters s).triggers = s.triggers := rfl
@[simp] theorem zeroCounters_channels (s : State) : (zeroCounters s).channels = s.channels := rfl
@[simp] theorem zeroCounters_syncs (s : State) : (zeroCounters s).syncs = s.syncs := rfl
@[simp] theorem zeroCounters_seq (s : State) : (zeroCounters s).seq = s.seq := rfl
@[simp] theorem zeroCounters_tables (s : State) : (zeroCounters s).tables = s.tables := rfl
@[simp] theorem zeroCounters_port (s : State) : (zeroCounters s).port = s.port := rfl
@[simp] theorem zeroCounters_records (s : State) : (zeroCounters s).records = s.records := rfl
@[simp] theorem zeroCounters_store (s : State) : (zeroCounters s).store = s.store := rfl
@[simp] theorem zeroCounters_policy (s : State) : (zeroCounters s).policy = s.policy := rfl
@[simp] theorem zeroCounters_cmd (s : State) : (zeroCounters s).cmd = s.cmd := rfl
@[simp] theorem zeroCounters_status (s : State) : (zeroCounters s).status = s.status := rfl
@[simp] theorem zeroCounters_counters (s : State) :
    (zeroCounters s).counters = { s.counters with value := Vector.replicate 9 0 } := rfl
@[simp] theorem zeroCounters_readData (s : State) : (zeroCounters s).readData = s.readData := rfl
@[simp] theorem zeroCounters_freeCount (s : State) : (zeroCounters s).freeCount = s.freeCount := rfl
@[simp] theorem zeroCounters_pending (s : State) : (zeroCounters s).pending = s.pending := rfl

/-! ### portError -/
@[simp] theorem portError_inReset (e : PortError) (w : Word) (s : State) : (portError e w s).inReset = s.inReset := rfl
@[simp] theorem portError_timebase (e : PortError) (w : Word) (s : State) :
    (portError e w s).timebase = s.timebase := rfl
@[simp] theorem portError_triggers (e : PortError) (w : Word) (s : State) :
    (portError e w s).triggers = s.triggers := rfl
@[simp] theorem portError_channels (e : PortError) (w : Word) (s : State) :
    (portError e w s).channels = s.channels := rfl
@[simp] theorem portError_syncs (e : PortError) (w : Word) (s : State) : (portError e w s).syncs = s.syncs := rfl
@[simp] theorem portError_seq (e : PortError) (w : Word) (s : State) : (portError e w s).seq = s.seq := rfl
@[simp] theorem portError_tables (e : PortError) (w : Word) (s : State) : (portError e w s).tables = s.tables := rfl
@[simp] theorem portError_port (e : PortError) (w : Word) (s : State) :
    (portError e w s).port = { s.port with lastError := e, errorIndex := w } := rfl
@[simp] theorem portError_records (e : PortError) (w : Word) (s : State) : (portError e w s).records = s.records := rfl
@[simp] theorem portError_store (e : PortError) (w : Word) (s : State) : (portError e w s).store = s.store := rfl
@[simp] theorem portError_policy (e : PortError) (w : Word) (s : State) : (portError e w s).policy = s.policy := rfl
@[simp] theorem portError_cmd (e : PortError) (w : Word) (s : State) : (portError e w s).cmd = s.cmd := rfl
@[simp] theorem portError_status (e : PortError) (w : Word) (s : State) :
    (portError e w s).status = { s.status with flags := s.status.flags ||| portErrorFlag } := rfl
@[simp] theorem portError_counters (e : PortError) (w : Word) (s : State) :
    (portError e w s).counters = s.counters := rfl
@[simp] theorem portError_readData (e : PortError) (w : Word) (s : State) :
    (portError e w s).readData = s.readData := rfl
@[simp] theorem portError_freeCount (e : PortError) (w : Word) (s : State) :
    (portError e w s).freeCount = s.freeCount := rfl
@[simp] theorem portError_pending (e : PortError) (w : Word) (s : State) : (portError e w s).pending = s.pending := rfl

/-! ### endSession -/
@[simp] theorem endSession_inReset (s : State) : (endSession s).inReset = s.inReset := rfl
@[simp] theorem endSession_timebase (s : State) : (endSession s).timebase = s.timebase := rfl
@[simp] theorem endSession_triggers (s : State) : (endSession s).triggers = s.triggers := rfl
@[simp] theorem endSession_channels (s : State) : (endSession s).channels = s.channels := rfl
@[simp] theorem endSession_syncs (s : State) : (endSession s).syncs = s.syncs := rfl
@[simp] theorem endSession_seq (s : State) : (endSession s).seq = s.seq := rfl
@[simp] theorem endSession_tables (s : State) : (endSession s).tables = s.tables := rfl
@[simp] theorem endSession_port (s : State) :
    (endSession s).port = { s.port with
      kind := .none, table := .steps, bank := .active, start := 0, assembly := [], written := 0, beyond := [], tableFull := false } := rfl
@[simp] theorem endSession_records (s : State) : (endSession s).records = s.records := rfl
@[simp] theorem endSession_store (s : State) : (endSession s).store = s.store := rfl
@[simp] theorem endSession_policy (s : State) : (endSession s).policy = s.policy := rfl
@[simp] theorem endSession_cmd (s : State) : (endSession s).cmd = s.cmd := rfl
@[simp] theorem endSession_status (s : State) : (endSession s).status = s.status := rfl
@[simp] theorem endSession_counters (s : State) : (endSession s).counters = s.counters := rfl
@[simp] theorem endSession_readData (s : State) : (endSession s).readData = s.readData := rfl
@[simp] theorem endSession_freeCount (s : State) : (endSession s).freeCount = s.freeCount := rfl
@[simp] theorem endSession_pending (s : State) : (endSession s).pending = s.pending := rfl

/-! ### setStaging -/
@[simp] theorem setStaging_inReset (b : Bank) (s : State) : (setStaging b s).inReset = s.inReset := rfl
@[simp] theorem setStaging_timebase (b : Bank) (s : State) : (setStaging b s).timebase = s.timebase := rfl
@[simp] theorem setStaging_triggers (b : Bank) (s : State) : (setStaging b s).triggers = s.triggers := rfl
@[simp] theorem setStaging_channels (b : Bank) (s : State) : (setStaging b s).channels = s.channels := rfl
@[simp] theorem setStaging_syncs (b : Bank) (s : State) : (setStaging b s).syncs = s.syncs := rfl
@[simp] theorem setStaging_seq (b : Bank) (s : State) : (setStaging b s).seq = s.seq := rfl
@[simp] theorem setStaging_tables (b : Bank) (s : State) :
    (setStaging b s).tables = s.tables.setBank s.tables.active.other b := rfl
@[simp] theorem setStaging_port (b : Bank) (s : State) : (setStaging b s).port = s.port := rfl
@[simp] theorem setStaging_records (b : Bank) (s : State) : (setStaging b s).records = s.records := rfl
@[simp] theorem setStaging_store (b : Bank) (s : State) : (setStaging b s).store = s.store := rfl
@[simp] theorem setStaging_policy (b : Bank) (s : State) : (setStaging b s).policy = s.policy := rfl
@[simp] theorem setStaging_cmd (b : Bank) (s : State) : (setStaging b s).cmd = s.cmd := rfl
@[simp] theorem setStaging_status (b : Bank) (s : State) : (setStaging b s).status = s.status := rfl
@[simp] theorem setStaging_counters (b : Bank) (s : State) : (setStaging b s).counters = s.counters := rfl
@[simp] theorem setStaging_readData (b : Bank) (s : State) : (setStaging b s).readData = s.readData := rfl
@[simp] theorem setStaging_freeCount (b : Bank) (s : State) : (setStaging b s).freeCount = s.freeCount := rfl
@[simp] theorem setStaging_pending (b : Bank) (s : State) : (setStaging b s).pending = s.pending := rfl

/-! ### setChannel -/
@[simp] theorem setChannel_inReset (i : Fin 8) (ch : Channel) (s : State) :
    (setChannel i ch s).inReset = s.inReset := rfl
@[simp] theorem setChannel_timebase (i : Fin 8) (ch : Channel) (s : State) :
    (setChannel i ch s).timebase = s.timebase := rfl
@[simp] theorem setChannel_triggers (i : Fin 8) (ch : Channel) (s : State) :
    (setChannel i ch s).triggers = s.triggers := rfl
@[simp] theorem setChannel_channels (i : Fin 8) (ch : Channel) (s : State) :
    (setChannel i ch s).channels = { s.channels with channel := s.channels.channel.set i ch } := rfl
@[simp] theorem setChannel_syncs (i : Fin 8) (ch : Channel) (s : State) : (setChannel i ch s).syncs = s.syncs := rfl
@[simp] theorem setChannel_seq (i : Fin 8) (ch : Channel) (s : State) : (setChannel i ch s).seq = s.seq := rfl
@[simp] theorem setChannel_tables (i : Fin 8) (ch : Channel) (s : State) : (setChannel i ch s).tables = s.tables := rfl
@[simp] theorem setChannel_port (i : Fin 8) (ch : Channel) (s : State) : (setChannel i ch s).port = s.port := rfl
@[simp] theorem setChannel_records (i : Fin 8) (ch : Channel) (s : State) :
    (setChannel i ch s).records = s.records := rfl
@[simp] theorem setChannel_store (i : Fin 8) (ch : Channel) (s : State) : (setChannel i ch s).store = s.store := rfl
@[simp] theorem setChannel_policy (i : Fin 8) (ch : Channel) (s : State) : (setChannel i ch s).policy = s.policy := rfl
@[simp] theorem setChannel_cmd (i : Fin 8) (ch : Channel) (s : State) : (setChannel i ch s).cmd = s.cmd := rfl
@[simp] theorem setChannel_status (i : Fin 8) (ch : Channel) (s : State) : (setChannel i ch s).status = s.status := rfl
@[simp] theorem setChannel_counters (i : Fin 8) (ch : Channel) (s : State) :
    (setChannel i ch s).counters = s.counters := rfl
@[simp] theorem setChannel_readData (i : Fin 8) (ch : Channel) (s : State) :
    (setChannel i ch s).readData = s.readData := rfl
@[simp] theorem setChannel_freeCount (i : Fin 8) (ch : Channel) (s : State) :
    (setChannel i ch s).freeCount = s.freeCount := rfl
@[simp] theorem setChannel_pending (i : Fin 8) (ch : Channel) (s : State) :
    (setChannel i ch s).pending = s.pending := rfl

/-! ### closeGates -/
@[simp] theorem closeGates_inReset (s : State) : (closeGates s).inReset = s.inReset := rfl
@[simp] theorem closeGates_timebase (s : State) : (closeGates s).timebase = s.timebase := rfl
@[simp] theorem closeGates_triggers (s : State) : (closeGates s).triggers = s.triggers := rfl
@[simp] theorem closeGates_channels (s : State) :
    (closeGates s).channels = { s.channels with channel := Vector.ofFn fun i => { s.channels.channel[i] with gate := none } } := rfl
@[simp] theorem closeGates_syncs (s : State) : (closeGates s).syncs = s.syncs := rfl
@[simp] theorem closeGates_seq (s : State) : (closeGates s).seq = s.seq := rfl
@[simp] theorem closeGates_tables (s : State) : (closeGates s).tables = s.tables := rfl
@[simp] theorem closeGates_port (s : State) : (closeGates s).port = s.port := rfl
@[simp] theorem closeGates_records (s : State) : (closeGates s).records = s.records := rfl
@[simp] theorem closeGates_store (s : State) : (closeGates s).store = s.store := rfl
@[simp] theorem closeGates_policy (s : State) : (closeGates s).policy = s.policy := rfl
@[simp] theorem closeGates_cmd (s : State) : (closeGates s).cmd = s.cmd := rfl
@[simp] theorem closeGates_status (s : State) : (closeGates s).status = s.status := rfl
@[simp] theorem closeGates_counters (s : State) : (closeGates s).counters = s.counters := rfl
@[simp] theorem closeGates_readData (s : State) : (closeGates s).readData = s.readData := rfl
@[simp] theorem closeGates_freeCount (s : State) : (closeGates s).freeCount = s.freeCount := rfl
@[simp] theorem closeGates_pending (s : State) : (closeGates s).pending = s.pending := rfl

/-! ### cutPulses -/
@[simp] theorem cutPulses_inReset (s : State) : (cutPulses s).inReset = s.inReset := rfl
@[simp] theorem cutPulses_timebase (s : State) : (cutPulses s).timebase = s.timebase := rfl
@[simp] theorem cutPulses_triggers (s : State) : (cutPulses s).triggers = s.triggers := rfl
@[simp] theorem cutPulses_channels (s : State) : (cutPulses s).channels = s.channels := rfl
@[simp] theorem cutPulses_syncs (s : State) :
    (cutPulses s).syncs = Vector.ofFn fun i => { s.syncs[i] with pulse := .idle } := rfl
@[simp] theorem cutPulses_seq (s : State) : (cutPulses s).seq = s.seq := rfl
@[simp] theorem cutPulses_tables (s : State) : (cutPulses s).tables = s.tables := rfl
@[simp] theorem cutPulses_port (s : State) : (cutPulses s).port = s.port := rfl
@[simp] theorem cutPulses_records (s : State) : (cutPulses s).records = s.records := rfl
@[simp] theorem cutPulses_store (s : State) : (cutPulses s).store = s.store := rfl
@[simp] theorem cutPulses_policy (s : State) : (cutPulses s).policy = s.policy := rfl
@[simp] theorem cutPulses_cmd (s : State) : (cutPulses s).cmd = s.cmd := rfl
@[simp] theorem cutPulses_status (s : State) : (cutPulses s).status = s.status := rfl
@[simp] theorem cutPulses_counters (s : State) : (cutPulses s).counters = s.counters := rfl
@[simp] theorem cutPulses_readData (s : State) : (cutPulses s).readData = s.readData := rfl
@[simp] theorem cutPulses_freeCount (s : State) : (cutPulses s).freeCount = s.freeCount := rfl
@[simp] theorem cutPulses_pending (s : State) : (cutPulses s).pending = s.pending := rfl

/-! ### setOutput -/
@[simp] theorem setOutput_inReset (i : Fin 4) (o : SyncOutput) (s : State) :
    (setOutput i o s).inReset = s.inReset := rfl
@[simp] theorem setOutput_timebase (i : Fin 4) (o : SyncOutput) (s : State) :
    (setOutput i o s).timebase = s.timebase := rfl
@[simp] theorem setOutput_triggers (i : Fin 4) (o : SyncOutput) (s : State) :
    (setOutput i o s).triggers = s.triggers := rfl
@[simp] theorem setOutput_channels (i : Fin 4) (o : SyncOutput) (s : State) :
    (setOutput i o s).channels = s.channels := rfl
@[simp] theorem setOutput_syncs (i : Fin 4) (o : SyncOutput) (s : State) :
    (setOutput i o s).syncs = s.syncs.set i o := rfl
@[simp] theorem setOutput_seq (i : Fin 4) (o : SyncOutput) (s : State) : (setOutput i o s).seq = s.seq := rfl
@[simp] theorem setOutput_tables (i : Fin 4) (o : SyncOutput) (s : State) : (setOutput i o s).tables = s.tables := rfl
@[simp] theorem setOutput_port (i : Fin 4) (o : SyncOutput) (s : State) : (setOutput i o s).port = s.port := rfl
@[simp] theorem setOutput_records (i : Fin 4) (o : SyncOutput) (s : State) :
    (setOutput i o s).records = s.records := rfl
@[simp] theorem setOutput_store (i : Fin 4) (o : SyncOutput) (s : State) : (setOutput i o s).store = s.store := rfl
@[simp] theorem setOutput_policy (i : Fin 4) (o : SyncOutput) (s : State) : (setOutput i o s).policy = s.policy := rfl
@[simp] theorem setOutput_cmd (i : Fin 4) (o : SyncOutput) (s : State) : (setOutput i o s).cmd = s.cmd := rfl
@[simp] theorem setOutput_status (i : Fin 4) (o : SyncOutput) (s : State) : (setOutput i o s).status = s.status := rfl
@[simp] theorem setOutput_counters (i : Fin 4) (o : SyncOutput) (s : State) :
    (setOutput i o s).counters = s.counters := rfl
@[simp] theorem setOutput_readData (i : Fin 4) (o : SyncOutput) (s : State) :
    (setOutput i o s).readData = s.readData := rfl
@[simp] theorem setOutput_freeCount (i : Fin 4) (o : SyncOutput) (s : State) :
    (setOutput i o s).freeCount = s.freeCount := rfl
@[simp] theorem setOutput_pending (i : Fin 4) (o : SyncOutput) (s : State) :
    (setOutput i o s).pending = s.pending := rfl

/-! ### setContext -/
@[simp] theorem setContext_inReset (c : StepContext) (s : State) : (setContext c s).inReset = s.inReset := rfl
@[simp] theorem setContext_timebase (c : StepContext) (s : State) : (setContext c s).timebase = s.timebase := rfl
@[simp] theorem setContext_triggers (c : StepContext) (s : State) : (setContext c s).triggers = s.triggers := rfl
@[simp] theorem setContext_channels (c : StepContext) (s : State) : (setContext c s).channels = s.channels := rfl
@[simp] theorem setContext_syncs (c : StepContext) (s : State) : (setContext c s).syncs = s.syncs := rfl
@[simp] theorem setContext_seq (c : StepContext) (s : State) :
    (setContext c s).seq = { s.seq with context := some c } := rfl
@[simp] theorem setContext_tables (c : StepContext) (s : State) : (setContext c s).tables = s.tables := rfl
@[simp] theorem setContext_port (c : StepContext) (s : State) : (setContext c s).port = s.port := rfl
@[simp] theorem setContext_records (c : StepContext) (s : State) : (setContext c s).records = s.records := rfl
@[simp] theorem setContext_store (c : StepContext) (s : State) : (setContext c s).store = s.store := rfl
@[simp] theorem setContext_policy (c : StepContext) (s : State) : (setContext c s).policy = s.policy := rfl
@[simp] theorem setContext_cmd (c : StepContext) (s : State) : (setContext c s).cmd = s.cmd := rfl
@[simp] theorem setContext_status (c : StepContext) (s : State) : (setContext c s).status = s.status := rfl
@[simp] theorem setContext_counters (c : StepContext) (s : State) : (setContext c s).counters = s.counters := rfl
@[simp] theorem setContext_readData (c : StepContext) (s : State) : (setContext c s).readData = s.readData := rfl
@[simp] theorem setContext_freeCount (c : StepContext) (s : State) : (setContext c s).freeCount = s.freeCount := rfl
@[simp] theorem setContext_pending (c : StepContext) (s : State) : (setContext c s).pending = s.pending := rfl

/-! ### releasePlace -/
@[simp] theorem releasePlace_inReset (s : State) : (releasePlace s).inReset = s.inReset := rfl
@[simp] theorem releasePlace_timebase (s : State) : (releasePlace s).timebase = s.timebase := rfl
@[simp] theorem releasePlace_triggers (s : State) : (releasePlace s).triggers = s.triggers := rfl
@[simp] theorem releasePlace_channels (s : State) : (releasePlace s).channels = s.channels := rfl
@[simp] theorem releasePlace_syncs (s : State) : (releasePlace s).syncs = s.syncs := rfl
@[simp] theorem releasePlace_seq (s : State) : (releasePlace s).seq = s.seq := rfl
@[simp] theorem releasePlace_tables (s : State) : (releasePlace s).tables = s.tables := rfl
@[simp] theorem releasePlace_port (s : State) : (releasePlace s).port = s.port := rfl
@[simp] theorem releasePlace_records (s : State) :
    (releasePlace s).records = { s.records with reserved := false, waitingRequest := false } := rfl
@[simp] theorem releasePlace_store (s : State) : (releasePlace s).store = s.store := rfl
@[simp] theorem releasePlace_policy (s : State) : (releasePlace s).policy = s.policy := rfl
@[simp] theorem releasePlace_cmd (s : State) : (releasePlace s).cmd = s.cmd := rfl
@[simp] theorem releasePlace_status (s : State) : (releasePlace s).status = s.status := rfl
@[simp] theorem releasePlace_counters (s : State) : (releasePlace s).counters = s.counters := rfl
@[simp] theorem releasePlace_readData (s : State) : (releasePlace s).readData = s.readData := rfl
@[simp] theorem releasePlace_freeCount (s : State) : (releasePlace s).freeCount = s.freeCount := rfl
@[simp] theorem releasePlace_pending (s : State) : (releasePlace s).pending = s.pending := rfl

/-! ### flushTriggers -/
@[simp] theorem flushTriggers_inReset (s : State) : (flushTriggers s).inReset = s.inReset := rfl
@[simp] theorem flushTriggers_timebase (s : State) : (flushTriggers s).timebase = s.timebase := rfl
@[simp] theorem flushTriggers_triggers (s : State) : (flushTriggers s).triggers = { s.triggers with queue := [] } := rfl
@[simp] theorem flushTriggers_channels (s : State) : (flushTriggers s).channels = s.channels := rfl
@[simp] theorem flushTriggers_syncs (s : State) : (flushTriggers s).syncs = s.syncs := rfl
@[simp] theorem flushTriggers_seq (s : State) : (flushTriggers s).seq = s.seq := rfl
@[simp] theorem flushTriggers_tables (s : State) : (flushTriggers s).tables = s.tables := rfl
@[simp] theorem flushTriggers_port (s : State) : (flushTriggers s).port = s.port := rfl
@[simp] theorem flushTriggers_records (s : State) : (flushTriggers s).records = s.records := rfl
@[simp] theorem flushTriggers_store (s : State) : (flushTriggers s).store = s.store := rfl
@[simp] theorem flushTriggers_policy (s : State) : (flushTriggers s).policy = s.policy := rfl
@[simp] theorem flushTriggers_cmd (s : State) : (flushTriggers s).cmd = s.cmd := rfl
@[simp] theorem flushTriggers_status (s : State) : (flushTriggers s).status = s.status := rfl
@[simp] theorem flushTriggers_counters (s : State) : (flushTriggers s).counters = s.counters := rfl
@[simp] theorem flushTriggers_readData (s : State) : (flushTriggers s).readData = s.readData := rfl
@[simp] theorem flushTriggers_freeCount (s : State) : (flushTriggers s).freeCount = s.freeCount := rfl
@[simp] theorem flushTriggers_pending (s : State) : (flushTriggers s).pending = s.pending := rfl

/-! ### clearStep -/
@[simp] theorem clearStep_inReset (s : State) : (clearStep s).inReset = s.inReset := rfl
@[simp] theorem clearStep_timebase (s : State) : (clearStep s).timebase = s.timebase := rfl
@[simp] theorem clearStep_triggers (s : State) : (clearStep s).triggers = s.triggers := rfl
@[simp] theorem clearStep_channels (s : State) : (clearStep s).channels = s.channels := rfl
@[simp] theorem clearStep_syncs (s : State) : (clearStep s).syncs = s.syncs := rfl
@[simp] theorem clearStep_seq (s : State) :
    (clearStep s).seq = { s.seq with pauseRequest := false, holdTimer := none, hold := .none, context := none } := rfl
@[simp] theorem clearStep_tables (s : State) : (clearStep s).tables = s.tables := rfl
@[simp] theorem clearStep_port (s : State) : (clearStep s).port = s.port := rfl
@[simp] theorem clearStep_records (s : State) : (clearStep s).records = s.records := rfl
@[simp] theorem clearStep_store (s : State) : (clearStep s).store = s.store := rfl
@[simp] theorem clearStep_policy (s : State) : (clearStep s).policy = s.policy := rfl
@[simp] theorem clearStep_cmd (s : State) : (clearStep s).cmd = s.cmd := rfl
@[simp] theorem clearStep_status (s : State) : (clearStep s).status = s.status := rfl
@[simp] theorem clearStep_counters (s : State) : (clearStep s).counters = s.counters := rfl
@[simp] theorem clearStep_readData (s : State) : (clearStep s).readData = s.readData := rfl
@[simp] theorem clearStep_freeCount (s : State) : (clearStep s).freeCount = s.freeCount := rfl
@[simp] theorem clearStep_pending (s : State) : (clearStep s).pending = s.pending := rfl

/-! ### enterStopped -/
@[simp] theorem enterStopped_inReset (why : StopReason) (s : State) : (enterStopped why s).inReset = s.inReset := rfl
@[simp] theorem enterStopped_timebase (why : StopReason) (s : State) : (enterStopped why s).timebase = s.timebase := rfl
@[simp] theorem enterStopped_triggers (why : StopReason) (s : State) : (enterStopped why s).triggers = s.triggers := rfl
@[simp] theorem enterStopped_channels (why : StopReason) (s : State) : (enterStopped why s).channels = s.channels := rfl
@[simp] theorem enterStopped_syncs (why : StopReason) (s : State) : (enterStopped why s).syncs = s.syncs := rfl
@[simp] theorem enterStopped_seq (why : StopReason) (s : State) :
    (enterStopped why s).seq = { s.seq with state := .stopped, stopReason := why } := rfl
@[simp] theorem enterStopped_tables (why : StopReason) (s : State) : (enterStopped why s).tables = s.tables := rfl
@[simp] theorem enterStopped_port (why : StopReason) (s : State) : (enterStopped why s).port = s.port := rfl
@[simp] theorem enterStopped_records (why : StopReason) (s : State) : (enterStopped why s).records = s.records := rfl
@[simp] theorem enterStopped_store (why : StopReason) (s : State) : (enterStopped why s).store = s.store := rfl
@[simp] theorem enterStopped_policy (why : StopReason) (s : State) : (enterStopped why s).policy = s.policy := rfl
@[simp] theorem enterStopped_cmd (why : StopReason) (s : State) : (enterStopped why s).cmd = s.cmd := rfl
@[simp] theorem enterStopped_status (why : StopReason) (s : State) :
    (enterStopped why s).status = { s.status with flags := s.status.flags ||| seqStoppedFlag } := rfl
@[simp] theorem enterStopped_counters (why : StopReason) (s : State) : (enterStopped why s).counters = s.counters := rfl
@[simp] theorem enterStopped_readData (why : StopReason) (s : State) : (enterStopped why s).readData = s.readData := rfl
@[simp] theorem enterStopped_freeCount (why : StopReason) (s : State) :
    (enterStopped why s).freeCount = s.freeCount := rfl
@[simp] theorem enterStopped_pending (why : StopReason) (s : State) : (enterStopped why s).pending = s.pending := rfl

/-! ### enterHeld -/
@[simp] theorem enterHeld_inReset (why : HoldReason) (s : State) : (enterHeld why s).inReset = s.inReset := rfl
@[simp] theorem enterHeld_timebase (why : HoldReason) (s : State) : (enterHeld why s).timebase = s.timebase := rfl
@[simp] theorem enterHeld_triggers (why : HoldReason) (s : State) : (enterHeld why s).triggers = s.triggers := rfl
@[simp] theorem enterHeld_channels (why : HoldReason) (s : State) : (enterHeld why s).channels = s.channels := rfl
@[simp] theorem enterHeld_syncs (why : HoldReason) (s : State) : (enterHeld why s).syncs = s.syncs := rfl
@[simp] theorem enterHeld_seq (why : HoldReason) (s : State) :
    (enterHeld why s).seq = { s.seq with state := .held, hold := why, holdTimer := loadedTimer s } := rfl
@[simp] theorem enterHeld_tables (why : HoldReason) (s : State) : (enterHeld why s).tables = s.tables := rfl
@[simp] theorem enterHeld_port (why : HoldReason) (s : State) : (enterHeld why s).port = s.port := rfl
@[simp] theorem enterHeld_records (why : HoldReason) (s : State) : (enterHeld why s).records = s.records := rfl
@[simp] theorem enterHeld_store (why : HoldReason) (s : State) : (enterHeld why s).store = s.store := rfl
@[simp] theorem enterHeld_policy (why : HoldReason) (s : State) : (enterHeld why s).policy = s.policy := rfl
@[simp] theorem enterHeld_cmd (why : HoldReason) (s : State) : (enterHeld why s).cmd = s.cmd := rfl
@[simp] theorem enterHeld_status (why : HoldReason) (s : State) :
    (enterHeld why s).status = { s.status with flags := s.status.flags ||| heldFlag } := rfl
@[simp] theorem enterHeld_counters (why : HoldReason) (s : State) : (enterHeld why s).counters = s.counters := rfl
@[simp] theorem enterHeld_readData (why : HoldReason) (s : State) : (enterHeld why s).readData = s.readData := rfl
@[simp] theorem enterHeld_freeCount (why : HoldReason) (s : State) : (enterHeld why s).freeCount = s.freeCount := rfl
@[simp] theorem enterHeld_pending (why : HoldReason) (s : State) : (enterHeld why s).pending = s.pending := rfl

/-! ### enterPaused -/
@[simp] theorem enterPaused_inReset (s : State) : (enterPaused s).inReset = s.inReset := rfl
@[simp] theorem enterPaused_timebase (s : State) : (enterPaused s).timebase = s.timebase := rfl
@[simp] theorem enterPaused_triggers (s : State) : (enterPaused s).triggers = s.triggers := rfl
@[simp] theorem enterPaused_channels (s : State) : (enterPaused s).channels = s.channels := rfl
@[simp] theorem enterPaused_syncs (s : State) : (enterPaused s).syncs = s.syncs := rfl
@[simp] theorem enterPaused_seq (s : State) :
    (enterPaused s).seq = { s.seq with state := .paused, pauseRequest := false } := rfl
@[simp] theorem enterPaused_tables (s : State) : (enterPaused s).tables = s.tables := rfl
@[simp] theorem enterPaused_port (s : State) : (enterPaused s).port = s.port := rfl
@[simp] theorem enterPaused_records (s : State) : (enterPaused s).records = s.records := rfl
@[simp] theorem enterPaused_store (s : State) : (enterPaused s).store = s.store := rfl
@[simp] theorem enterPaused_policy (s : State) : (enterPaused s).policy = s.policy := rfl
@[simp] theorem enterPaused_cmd (s : State) : (enterPaused s).cmd = s.cmd := rfl
@[simp] theorem enterPaused_status (s : State) :
    (enterPaused s).status = { s.status with flags := s.status.flags ||| seqPausedFlag } := rfl
@[simp] theorem enterPaused_counters (s : State) : (enterPaused s).counters = s.counters := rfl
@[simp] theorem enterPaused_readData (s : State) : (enterPaused s).readData = s.readData := rfl
@[simp] theorem enterPaused_freeCount (s : State) : (enterPaused s).freeCount = s.freeCount := rfl
@[simp] theorem enterPaused_pending (s : State) : (enterPaused s).pending = s.pending := rfl

/-! ### countPass -/
@[simp] theorem countPass_inReset (s : State) : (countPass s).inReset = s.inReset := rfl
@[simp] theorem countPass_timebase (s : State) : (countPass s).timebase = s.timebase := rfl
@[simp] theorem countPass_triggers (s : State) : (countPass s).triggers = s.triggers := rfl
@[simp] theorem countPass_channels (s : State) : (countPass s).channels = s.channels := rfl
@[simp] theorem countPass_syncs (s : State) : (countPass s).syncs = s.syncs := rfl
@[simp] theorem countPass_seq (s : State) :
    (countPass s).seq = { s.seq with
      passCount := satAdd s.seq.passCount 1
      passesTaken := if s.seq.mode = .passes then satAdd s.seq.passesTaken 1 else s.seq.passesTaken } := rfl
@[simp] theorem countPass_tables (s : State) : (countPass s).tables = s.tables := rfl
@[simp] theorem countPass_port (s : State) : (countPass s).port = s.port := rfl
@[simp] theorem countPass_records (s : State) : (countPass s).records = s.records := rfl
@[simp] theorem countPass_store (s : State) : (countPass s).store = s.store := rfl
@[simp] theorem countPass_policy (s : State) : (countPass s).policy = s.policy := rfl
@[simp] theorem countPass_cmd (s : State) : (countPass s).cmd = s.cmd := rfl
@[simp] theorem countPass_status (s : State) :
    (countPass s).status = { s.status with flags := s.status.flags ||| passEndFlag } := rfl
@[simp] theorem countPass_counters (s : State) : (countPass s).counters = s.counters := rfl
@[simp] theorem countPass_readData (s : State) : (countPass s).readData = s.readData := rfl
@[simp] theorem countPass_freeCount (s : State) : (countPass s).freeCount = s.freeCount := rfl
@[simp] theorem countPass_pending (s : State) : (countPass s).pending = s.pending := rfl

/-! ### lightChannels -/
@[simp] theorem lightChannels_inReset (lit : ChannelMask) (es : List ChannelEntry) (s : State) :
    (lightChannels lit es s).inReset = s.inReset := rfl
@[simp] theorem lightChannels_timebase (lit : ChannelMask) (es : List ChannelEntry) (s : State) :
    (lightChannels lit es s).timebase = s.timebase := rfl
@[simp] theorem lightChannels_triggers (lit : ChannelMask) (es : List ChannelEntry) (s : State) :
    (lightChannels lit es s).triggers = s.triggers := rfl
@[simp] theorem lightChannels_channels (lit : ChannelMask) (es : List ChannelEntry) (s : State) :
    (lightChannels lit es s).channels = { s.channels with channel := Vector.ofFn fun i => lightChannel s lit es i } := rfl
@[simp] theorem lightChannels_syncs (lit : ChannelMask) (es : List ChannelEntry) (s : State) :
    (lightChannels lit es s).syncs = s.syncs := rfl
@[simp] theorem lightChannels_seq (lit : ChannelMask) (es : List ChannelEntry) (s : State) :
    (lightChannels lit es s).seq = s.seq := rfl
@[simp] theorem lightChannels_tables (lit : ChannelMask) (es : List ChannelEntry) (s : State) :
    (lightChannels lit es s).tables = s.tables := rfl
@[simp] theorem lightChannels_port (lit : ChannelMask) (es : List ChannelEntry) (s : State) :
    (lightChannels lit es s).port = s.port := rfl
@[simp] theorem lightChannels_records (lit : ChannelMask) (es : List ChannelEntry) (s : State) :
    (lightChannels lit es s).records = s.records := rfl
@[simp] theorem lightChannels_store (lit : ChannelMask) (es : List ChannelEntry) (s : State) :
    (lightChannels lit es s).store = s.store := rfl
@[simp] theorem lightChannels_policy (lit : ChannelMask) (es : List ChannelEntry) (s : State) :
    (lightChannels lit es s).policy = s.policy := rfl
@[simp] theorem lightChannels_cmd (lit : ChannelMask) (es : List ChannelEntry) (s : State) :
    (lightChannels lit es s).cmd = s.cmd := rfl
@[simp] theorem lightChannels_status (lit : ChannelMask) (es : List ChannelEntry) (s : State) :
    (lightChannels lit es s).status = s.status := rfl
@[simp] theorem lightChannels_counters (lit : ChannelMask) (es : List ChannelEntry) (s : State) :
    (lightChannels lit es s).counters = s.counters := rfl
@[simp] theorem lightChannels_readData (lit : ChannelMask) (es : List ChannelEntry) (s : State) :
    (lightChannels lit es s).readData = s.readData := rfl
@[simp] theorem lightChannels_freeCount (lit : ChannelMask) (es : List ChannelEntry) (s : State) :
    (lightChannels lit es s).freeCount = s.freeCount := rfl
@[simp] theorem lightChannels_pending (lit : ChannelMask) (es : List ChannelEntry) (s : State) :
    (lightChannels lit es s).pending = s.pending := rfl

/-! ### placePulses -/
@[simp] theorem placePulses_inReset (es : List SyncEntry) (s : State) : (placePulses es s).inReset = s.inReset := rfl
@[simp] theorem placePulses_timebase (es : List SyncEntry) (s : State) : (placePulses es s).timebase = s.timebase := rfl
@[simp] theorem placePulses_triggers (es : List SyncEntry) (s : State) : (placePulses es s).triggers = s.triggers := rfl
@[simp] theorem placePulses_channels (es : List SyncEntry) (s : State) : (placePulses es s).channels = s.channels := rfl
@[simp] theorem placePulses_syncs (es : List SyncEntry) (s : State) :
    (placePulses es s).syncs = Vector.ofFn fun i => placeOn s.timebase.tsc es i s.syncs[i] := rfl
@[simp] theorem placePulses_seq (es : List SyncEntry) (s : State) : (placePulses es s).seq = s.seq := rfl
@[simp] theorem placePulses_tables (es : List SyncEntry) (s : State) : (placePulses es s).tables = s.tables := rfl
@[simp] theorem placePulses_port (es : List SyncEntry) (s : State) : (placePulses es s).port = s.port := rfl
@[simp] theorem placePulses_records (es : List SyncEntry) (s : State) : (placePulses es s).records = s.records := rfl
@[simp] theorem placePulses_store (es : List SyncEntry) (s : State) : (placePulses es s).store = s.store := rfl
@[simp] theorem placePulses_policy (es : List SyncEntry) (s : State) : (placePulses es s).policy = s.policy := rfl
@[simp] theorem placePulses_cmd (es : List SyncEntry) (s : State) : (placePulses es s).cmd = s.cmd := rfl
@[simp] theorem placePulses_status (es : List SyncEntry) (s : State) : (placePulses es s).status = s.status := rfl
@[simp] theorem placePulses_counters (es : List SyncEntry) (s : State) : (placePulses es s).counters = s.counters := rfl
@[simp] theorem placePulses_readData (es : List SyncEntry) (s : State) : (placePulses es s).readData = s.readData := rfl
@[simp] theorem placePulses_freeCount (es : List SyncEntry) (s : State) :
    (placePulses es s).freeCount = s.freeCount := rfl
@[simp] theorem placePulses_pending (es : List SyncEntry) (s : State) : (placePulses es s).pending = s.pending := rfl

/-! ### verdict -/
@[simp] theorem verdict_inReset (code : Word) (r : ResultCode) (d : Word) (s : State) :
    (verdict code r d s).inReset = s.inReset := rfl
@[simp] theorem verdict_timebase (code : Word) (r : ResultCode) (d : Word) (s : State) :
    (verdict code r d s).timebase = s.timebase := rfl
@[simp] theorem verdict_triggers (code : Word) (r : ResultCode) (d : Word) (s : State) :
    (verdict code r d s).triggers = s.triggers := rfl
@[simp] theorem verdict_channels (code : Word) (r : ResultCode) (d : Word) (s : State) :
    (verdict code r d s).channels = s.channels := rfl
@[simp] theorem verdict_syncs (code : Word) (r : ResultCode) (d : Word) (s : State) :
    (verdict code r d s).syncs = s.syncs := rfl
@[simp] theorem verdict_seq (code : Word) (r : ResultCode) (d : Word) (s : State) :
    (verdict code r d s).seq = s.seq := rfl
@[simp] theorem verdict_tables (code : Word) (r : ResultCode) (d : Word) (s : State) :
    (verdict code r d s).tables = s.tables := rfl
@[simp] theorem verdict_port (code : Word) (r : ResultCode) (d : Word) (s : State) :
    (verdict code r d s).port = s.port := rfl
@[simp] theorem verdict_records (code : Word) (r : ResultCode) (d : Word) (s : State) :
    (verdict code r d s).records = s.records := rfl
@[simp] theorem verdict_store (code : Word) (r : ResultCode) (d : Word) (s : State) :
    (verdict code r d s).store = s.store := rfl
@[simp] theorem verdict_policy (code : Word) (r : ResultCode) (d : Word) (s : State) :
    (verdict code r d s).policy = s.policy := rfl
@[simp] theorem verdict_cmd (code : Word) (r : ResultCode) (d : Word) (s : State) :
    (verdict code r d s).cmd = { s.cmd with last := code, result := r, detail := d } := rfl
@[simp] theorem verdict_status (code : Word) (r : ResultCode) (d : Word) (s : State) :
    (verdict code r d s).status = s.status := rfl
@[simp] theorem verdict_counters (code : Word) (r : ResultCode) (d : Word) (s : State) :
    (verdict code r d s).counters = s.counters := rfl
@[simp] theorem verdict_readData (code : Word) (r : ResultCode) (d : Word) (s : State) :
    (verdict code r d s).readData = s.readData := rfl
@[simp] theorem verdict_freeCount (code : Word) (r : ResultCode) (d : Word) (s : State) :
    (verdict code r d s).freeCount = s.freeCount := rfl
@[simp] theorem verdict_pending (code : Word) (r : ResultCode) (d : Word) (s : State) :
    (verdict code r d s).pending = s.pending := rfl

/-! ### writeIgnored -/
@[simp] theorem writeIgnored_inReset (s : State) : (writeIgnored s).inReset = s.inReset := rfl
@[simp] theorem writeIgnored_timebase (s : State) : (writeIgnored s).timebase = s.timebase := rfl
@[simp] theorem writeIgnored_triggers (s : State) : (writeIgnored s).triggers = s.triggers := rfl
@[simp] theorem writeIgnored_channels (s : State) : (writeIgnored s).channels = s.channels := rfl
@[simp] theorem writeIgnored_syncs (s : State) : (writeIgnored s).syncs = s.syncs := rfl
@[simp] theorem writeIgnored_seq (s : State) : (writeIgnored s).seq = s.seq := rfl
@[simp] theorem writeIgnored_tables (s : State) : (writeIgnored s).tables = s.tables := rfl
@[simp] theorem writeIgnored_port (s : State) : (writeIgnored s).port = s.port := rfl
@[simp] theorem writeIgnored_records (s : State) : (writeIgnored s).records = s.records := rfl
@[simp] theorem writeIgnored_store (s : State) : (writeIgnored s).store = s.store := rfl
@[simp] theorem writeIgnored_policy (s : State) : (writeIgnored s).policy = s.policy := rfl
@[simp] theorem writeIgnored_cmd (s : State) : (writeIgnored s).cmd = s.cmd := rfl
@[simp] theorem writeIgnored_status (s : State) :
    (writeIgnored s).status = { s.status with flags := s.status.flags ||| writeIgnoredFlag } := rfl
@[simp] theorem writeIgnored_counters (s : State) : (writeIgnored s).counters = s.counters := rfl
@[simp] theorem writeIgnored_readData (s : State) : (writeIgnored s).readData = s.readData := rfl
@[simp] theorem writeIgnored_freeCount (s : State) : (writeIgnored s).freeCount = s.freeCount := rfl
@[simp] theorem writeIgnored_pending (s : State) : (writeIgnored s).pending = s.pending := rfl

/-! ### setFaultLine -/
@[simp] theorem setFaultLine_inReset (n : Fin 8) (level : Bool) (s : State) :
    (setFaultLine n level s).inReset = s.inReset := rfl
@[simp] theorem setFaultLine_timebase (n : Fin 8) (level : Bool) (s : State) :
    (setFaultLine n level s).timebase = s.timebase := rfl
@[simp] theorem setFaultLine_triggers (n : Fin 8) (level : Bool) (s : State) :
    (setFaultLine n level s).triggers = s.triggers := rfl
@[simp] theorem setFaultLine_channels (n : Fin 8) (level : Bool) (s : State) :
    (setFaultLine n level s).channels = { s.channels with channel := s.channels.channel.set n { s.channels.channel[n] with faultLine := level } } := rfl
@[simp] theorem setFaultLine_syncs (n : Fin 8) (level : Bool) (s : State) :
    (setFaultLine n level s).syncs = s.syncs := rfl
@[simp] theorem setFaultLine_seq (n : Fin 8) (level : Bool) (s : State) : (setFaultLine n level s).seq = s.seq := rfl
@[simp] theorem setFaultLine_tables (n : Fin 8) (level : Bool) (s : State) :
    (setFaultLine n level s).tables = s.tables := rfl
@[simp] theorem setFaultLine_port (n : Fin 8) (level : Bool) (s : State) : (setFaultLine n level s).port = s.port := rfl
@[simp] theorem setFaultLine_records (n : Fin 8) (level : Bool) (s : State) :
    (setFaultLine n level s).records = s.records := rfl
@[simp] theorem setFaultLine_store (n : Fin 8) (level : Bool) (s : State) :
    (setFaultLine n level s).store = s.store := rfl
@[simp] theorem setFaultLine_policy (n : Fin 8) (level : Bool) (s : State) :
    (setFaultLine n level s).policy = s.policy := rfl
@[simp] theorem setFaultLine_cmd (n : Fin 8) (level : Bool) (s : State) : (setFaultLine n level s).cmd = s.cmd := rfl
@[simp] theorem setFaultLine_status (n : Fin 8) (level : Bool) (s : State) :
    (setFaultLine n level s).status = s.status := rfl
@[simp] theorem setFaultLine_counters (n : Fin 8) (level : Bool) (s : State) :
    (setFaultLine n level s).counters = s.counters := rfl
@[simp] theorem setFaultLine_readData (n : Fin 8) (level : Bool) (s : State) :
    (setFaultLine n level s).readData = s.readData := rfl
@[simp] theorem setFaultLine_freeCount (n : Fin 8) (level : Bool) (s : State) :
    (setFaultLine n level s).freeCount = s.freeCount := rfl
@[simp] theorem setFaultLine_pending (n : Fin 8) (level : Bool) (s : State) :
    (setFaultLine n level s).pending = s.pending := rfl

/-! ### setInput -/
@[simp] theorem setInput_inReset (i : Fin 4) (x : TriggerInput) (s : State) :
    (setInput i x s).inReset = s.inReset := rfl
@[simp] theorem setInput_timebase (i : Fin 4) (x : TriggerInput) (s : State) :
    (setInput i x s).timebase = s.timebase := rfl
@[simp] theorem setInput_triggers (i : Fin 4) (x : TriggerInput) (s : State) :
    (setInput i x s).triggers = { s.triggers with inputs := s.triggers.inputs.set i x } := rfl
@[simp] theorem setInput_channels (i : Fin 4) (x : TriggerInput) (s : State) :
    (setInput i x s).channels = s.channels := rfl
@[simp] theorem setInput_syncs (i : Fin 4) (x : TriggerInput) (s : State) : (setInput i x s).syncs = s.syncs := rfl
@[simp] theorem setInput_seq (i : Fin 4) (x : TriggerInput) (s : State) : (setInput i x s).seq = s.seq := rfl
@[simp] theorem setInput_tables (i : Fin 4) (x : TriggerInput) (s : State) : (setInput i x s).tables = s.tables := rfl
@[simp] theorem setInput_port (i : Fin 4) (x : TriggerInput) (s : State) : (setInput i x s).port = s.port := rfl
@[simp] theorem setInput_records (i : Fin 4) (x : TriggerInput) (s : State) :
    (setInput i x s).records = s.records := rfl
@[simp] theorem setInput_store (i : Fin 4) (x : TriggerInput) (s : State) : (setInput i x s).store = s.store := rfl
@[simp] theorem setInput_policy (i : Fin 4) (x : TriggerInput) (s : State) : (setInput i x s).policy = s.policy := rfl
@[simp] theorem setInput_cmd (i : Fin 4) (x : TriggerInput) (s : State) : (setInput i x s).cmd = s.cmd := rfl
@[simp] theorem setInput_status (i : Fin 4) (x : TriggerInput) (s : State) : (setInput i x s).status = s.status := rfl
@[simp] theorem setInput_counters (i : Fin 4) (x : TriggerInput) (s : State) :
    (setInput i x s).counters = s.counters := rfl
@[simp] theorem setInput_readData (i : Fin 4) (x : TriggerInput) (s : State) :
    (setInput i x s).readData = s.readData := rfl
@[simp] theorem setInput_freeCount (i : Fin 4) (x : TriggerInput) (s : State) :
    (setInput i x s).freeCount = s.freeCount := rfl
@[simp] theorem setInput_pending (i : Fin 4) (x : TriggerInput) (s : State) :
    (setInput i x s).pending = s.pending := rfl

/-! ### setHeader -/
@[simp] theorem setHeader_inReset (slot : Fin 6) (h : HeaderSector) (s : State) :
    (setHeader slot h s).inReset = s.inReset := rfl
@[simp] theorem setHeader_timebase (slot : Fin 6) (h : HeaderSector) (s : State) :
    (setHeader slot h s).timebase = s.timebase := rfl
@[simp] theorem setHeader_triggers (slot : Fin 6) (h : HeaderSector) (s : State) :
    (setHeader slot h s).triggers = s.triggers := rfl
@[simp] theorem setHeader_channels (slot : Fin 6) (h : HeaderSector) (s : State) :
    (setHeader slot h s).channels = s.channels := rfl
@[simp] theorem setHeader_syncs (slot : Fin 6) (h : HeaderSector) (s : State) :
    (setHeader slot h s).syncs = s.syncs := rfl
@[simp] theorem setHeader_seq (slot : Fin 6) (h : HeaderSector) (s : State) : (setHeader slot h s).seq = s.seq := rfl
@[simp] theorem setHeader_tables (slot : Fin 6) (h : HeaderSector) (s : State) :
    (setHeader slot h s).tables = s.tables := rfl
@[simp] theorem setHeader_port (slot : Fin 6) (h : HeaderSector) (s : State) : (setHeader slot h s).port = s.port := rfl
@[simp] theorem setHeader_records (slot : Fin 6) (h : HeaderSector) (s : State) :
    (setHeader slot h s).records = s.records := rfl
@[simp] theorem setHeader_store (slot : Fin 6) (h : HeaderSector) (s : State) :
    (setHeader slot h s).store = { s.store with array := { s.store.array with headers := s.store.array.headers.set slot h } } := rfl
@[simp] theorem setHeader_policy (slot : Fin 6) (h : HeaderSector) (s : State) :
    (setHeader slot h s).policy = s.policy := rfl
@[simp] theorem setHeader_cmd (slot : Fin 6) (h : HeaderSector) (s : State) : (setHeader slot h s).cmd = s.cmd := rfl
@[simp] theorem setHeader_status (slot : Fin 6) (h : HeaderSector) (s : State) :
    (setHeader slot h s).status = s.status := rfl
@[simp] theorem setHeader_counters (slot : Fin 6) (h : HeaderSector) (s : State) :
    (setHeader slot h s).counters = s.counters := rfl
@[simp] theorem setHeader_readData (slot : Fin 6) (h : HeaderSector) (s : State) :
    (setHeader slot h s).readData = s.readData := rfl
@[simp] theorem setHeader_freeCount (slot : Fin 6) (h : HeaderSector) (s : State) :
    (setHeader slot h s).freeCount = s.freeCount := rfl
@[simp] theorem setHeader_pending (slot : Fin 6) (h : HeaderSector) (s : State) :
    (setHeader slot h s).pending = s.pending := rfl

/-! ### setImageSector -/
@[simp] theorem setImageSector_inReset (slot : Fin 6) (k : Nat) (ws : List Word) (s : State) :
    (setImageSector slot k ws s).inReset = s.inReset := rfl
@[simp] theorem setImageSector_timebase (slot : Fin 6) (k : Nat) (ws : List Word) (s : State) :
    (setImageSector slot k ws s).timebase = s.timebase := rfl
@[simp] theorem setImageSector_triggers (slot : Fin 6) (k : Nat) (ws : List Word) (s : State) :
    (setImageSector slot k ws s).triggers = s.triggers := rfl
@[simp] theorem setImageSector_channels (slot : Fin 6) (k : Nat) (ws : List Word) (s : State) :
    (setImageSector slot k ws s).channels = s.channels := rfl
@[simp] theorem setImageSector_syncs (slot : Fin 6) (k : Nat) (ws : List Word) (s : State) :
    (setImageSector slot k ws s).syncs = s.syncs := rfl
@[simp] theorem setImageSector_seq (slot : Fin 6) (k : Nat) (ws : List Word) (s : State) :
    (setImageSector slot k ws s).seq = s.seq := rfl
@[simp] theorem setImageSector_tables (slot : Fin 6) (k : Nat) (ws : List Word) (s : State) :
    (setImageSector slot k ws s).tables = s.tables := rfl
@[simp] theorem setImageSector_port (slot : Fin 6) (k : Nat) (ws : List Word) (s : State) :
    (setImageSector slot k ws s).port = s.port := rfl
@[simp] theorem setImageSector_records (slot : Fin 6) (k : Nat) (ws : List Word) (s : State) :
    (setImageSector slot k ws s).records = s.records := rfl
@[simp] theorem setImageSector_store (slot : Fin 6) (k : Nat) (ws : List Word) (s : State) :
    (setImageSector slot k ws s).store = { s.store with array := { s.store.array with images := s.store.array.images.program (imageBase slot k) ws } } := rfl
@[simp] theorem setImageSector_policy (slot : Fin 6) (k : Nat) (ws : List Word) (s : State) :
    (setImageSector slot k ws s).policy = s.policy := rfl
@[simp] theorem setImageSector_cmd (slot : Fin 6) (k : Nat) (ws : List Word) (s : State) :
    (setImageSector slot k ws s).cmd = s.cmd := rfl
@[simp] theorem setImageSector_status (slot : Fin 6) (k : Nat) (ws : List Word) (s : State) :
    (setImageSector slot k ws s).status = s.status := rfl
@[simp] theorem setImageSector_counters (slot : Fin 6) (k : Nat) (ws : List Word) (s : State) :
    (setImageSector slot k ws s).counters = s.counters := rfl
@[simp] theorem setImageSector_readData (slot : Fin 6) (k : Nat) (ws : List Word) (s : State) :
    (setImageSector slot k ws s).readData = s.readData := rfl
@[simp] theorem setImageSector_freeCount (slot : Fin 6) (k : Nat) (ws : List Word) (s : State) :
    (setImageSector slot k ws s).freeCount = s.freeCount := rfl
@[simp] theorem setImageSector_pending (slot : Fin 6) (k : Nat) (ws : List Word) (s : State) :
    (setImageSector slot k ws s).pending = s.pending := rfl

/-! ### setStartupSector -/
@[simp] theorem setStartupSector_inReset (copy : Fin 2) (sector : StartupSector) (s : State) :
    (setStartupSector copy sector s).inReset = s.inReset := rfl
@[simp] theorem setStartupSector_timebase (copy : Fin 2) (sector : StartupSector) (s : State) :
    (setStartupSector copy sector s).timebase = s.timebase := rfl
@[simp] theorem setStartupSector_triggers (copy : Fin 2) (sector : StartupSector) (s : State) :
    (setStartupSector copy sector s).triggers = s.triggers := rfl
@[simp] theorem setStartupSector_channels (copy : Fin 2) (sector : StartupSector) (s : State) :
    (setStartupSector copy sector s).channels = s.channels := rfl
@[simp] theorem setStartupSector_syncs (copy : Fin 2) (sector : StartupSector) (s : State) :
    (setStartupSector copy sector s).syncs = s.syncs := rfl
@[simp] theorem setStartupSector_seq (copy : Fin 2) (sector : StartupSector) (s : State) :
    (setStartupSector copy sector s).seq = s.seq := rfl
@[simp] theorem setStartupSector_tables (copy : Fin 2) (sector : StartupSector) (s : State) :
    (setStartupSector copy sector s).tables = s.tables := rfl
@[simp] theorem setStartupSector_port (copy : Fin 2) (sector : StartupSector) (s : State) :
    (setStartupSector copy sector s).port = s.port := rfl
@[simp] theorem setStartupSector_records (copy : Fin 2) (sector : StartupSector) (s : State) :
    (setStartupSector copy sector s).records = s.records := rfl
@[simp] theorem setStartupSector_store (copy : Fin 2) (sector : StartupSector) (s : State) :
    (setStartupSector copy sector s).store = { s.store with array := { s.store.array with startups := s.store.array.startups.set copy sector } } := rfl
@[simp] theorem setStartupSector_policy (copy : Fin 2) (sector : StartupSector) (s : State) :
    (setStartupSector copy sector s).policy = s.policy := rfl
@[simp] theorem setStartupSector_cmd (copy : Fin 2) (sector : StartupSector) (s : State) :
    (setStartupSector copy sector s).cmd = s.cmd := rfl
@[simp] theorem setStartupSector_status (copy : Fin 2) (sector : StartupSector) (s : State) :
    (setStartupSector copy sector s).status = s.status := rfl
@[simp] theorem setStartupSector_counters (copy : Fin 2) (sector : StartupSector) (s : State) :
    (setStartupSector copy sector s).counters = s.counters := rfl
@[simp] theorem setStartupSector_readData (copy : Fin 2) (sector : StartupSector) (s : State) :
    (setStartupSector copy sector s).readData = s.readData := rfl
@[simp] theorem setStartupSector_freeCount (copy : Fin 2) (sector : StartupSector) (s : State) :
    (setStartupSector copy sector s).freeCount = s.freeCount := rfl
@[simp] theorem setStartupSector_pending (copy : Fin 2) (sector : StartupSector) (s : State) :
    (setStartupSector copy sector s).pending = s.pending := rfl

/-! ### setDirectory -/
@[simp] theorem setDirectory_inReset (slot : Fin 6) (e : DirectoryEntry) (s : State) :
    (setDirectory slot e s).inReset = s.inReset := rfl
@[simp] theorem setDirectory_timebase (slot : Fin 6) (e : DirectoryEntry) (s : State) :
    (setDirectory slot e s).timebase = s.timebase := rfl
@[simp] theorem setDirectory_triggers (slot : Fin 6) (e : DirectoryEntry) (s : State) :
    (setDirectory slot e s).triggers = s.triggers := rfl
@[simp] theorem setDirectory_channels (slot : Fin 6) (e : DirectoryEntry) (s : State) :
    (setDirectory slot e s).channels = s.channels := rfl
@[simp] theorem setDirectory_syncs (slot : Fin 6) (e : DirectoryEntry) (s : State) :
    (setDirectory slot e s).syncs = s.syncs := rfl
@[simp] theorem setDirectory_seq (slot : Fin 6) (e : DirectoryEntry) (s : State) :
    (setDirectory slot e s).seq = s.seq := rfl
@[simp] theorem setDirectory_tables (slot : Fin 6) (e : DirectoryEntry) (s : State) :
    (setDirectory slot e s).tables = s.tables := rfl
@[simp] theorem setDirectory_port (slot : Fin 6) (e : DirectoryEntry) (s : State) :
    (setDirectory slot e s).port = s.port := rfl
@[simp] theorem setDirectory_records (slot : Fin 6) (e : DirectoryEntry) (s : State) :
    (setDirectory slot e s).records = s.records := rfl
@[simp] theorem setDirectory_store (slot : Fin 6) (e : DirectoryEntry) (s : State) :
    (setDirectory slot e s).store = { s.store with directory := s.store.directory.set slot e } := rfl
@[simp] theorem setDirectory_policy (slot : Fin 6) (e : DirectoryEntry) (s : State) :
    (setDirectory slot e s).policy = s.policy := rfl
@[simp] theorem setDirectory_cmd (slot : Fin 6) (e : DirectoryEntry) (s : State) :
    (setDirectory slot e s).cmd = s.cmd := rfl
@[simp] theorem setDirectory_status (slot : Fin 6) (e : DirectoryEntry) (s : State) :
    (setDirectory slot e s).status = s.status := rfl
@[simp] theorem setDirectory_counters (slot : Fin 6) (e : DirectoryEntry) (s : State) :
    (setDirectory slot e s).counters = s.counters := rfl
@[simp] theorem setDirectory_readData (slot : Fin 6) (e : DirectoryEntry) (s : State) :
    (setDirectory slot e s).readData = s.readData := rfl
@[simp] theorem setDirectory_freeCount (slot : Fin 6) (e : DirectoryEntry) (s : State) :
    (setDirectory slot e s).freeCount = s.freeCount := rfl
@[simp] theorem setDirectory_pending (slot : Fin 6) (e : DirectoryEntry) (s : State) :
    (setDirectory slot e s).pending = s.pending := rfl

/-! ### setJob -/
@[simp] theorem setJob_inReset (j : StoreJob) (s : State) : (setJob j s).inReset = s.inReset := rfl
@[simp] theorem setJob_timebase (j : StoreJob) (s : State) : (setJob j s).timebase = s.timebase := rfl
@[simp] theorem setJob_triggers (j : StoreJob) (s : State) : (setJob j s).triggers = s.triggers := rfl
@[simp] theorem setJob_channels (j : StoreJob) (s : State) : (setJob j s).channels = s.channels := rfl
@[simp] theorem setJob_syncs (j : StoreJob) (s : State) : (setJob j s).syncs = s.syncs := rfl
@[simp] theorem setJob_seq (j : StoreJob) (s : State) : (setJob j s).seq = s.seq := rfl
@[simp] theorem setJob_tables (j : StoreJob) (s : State) : (setJob j s).tables = s.tables := rfl
@[simp] theorem setJob_port (j : StoreJob) (s : State) : (setJob j s).port = s.port := rfl
@[simp] theorem setJob_records (j : StoreJob) (s : State) : (setJob j s).records = s.records := rfl
@[simp] theorem setJob_store (j : StoreJob) (s : State) : (setJob j s).store = { s.store with job := j } := rfl
@[simp] theorem setJob_policy (j : StoreJob) (s : State) : (setJob j s).policy = s.policy := rfl
@[simp] theorem setJob_cmd (j : StoreJob) (s : State) : (setJob j s).cmd = s.cmd := rfl
@[simp] theorem setJob_status (j : StoreJob) (s : State) : (setJob j s).status = s.status := rfl
@[simp] theorem setJob_counters (j : StoreJob) (s : State) : (setJob j s).counters = s.counters := rfl
@[simp] theorem setJob_readData (j : StoreJob) (s : State) : (setJob j s).readData = s.readData := rfl
@[simp] theorem setJob_freeCount (j : StoreJob) (s : State) : (setJob j s).freeCount = s.freeCount := rfl
@[simp] theorem setJob_pending (j : StoreJob) (s : State) : (setJob j s).pending = s.pending := rfl

/-! ### setBoot -/
@[simp] theorem setBoot_inReset (p : BootPhase) (s : State) : (setBoot p s).inReset = s.inReset := rfl
@[simp] theorem setBoot_timebase (p : BootPhase) (s : State) : (setBoot p s).timebase = s.timebase := rfl
@[simp] theorem setBoot_triggers (p : BootPhase) (s : State) : (setBoot p s).triggers = s.triggers := rfl
@[simp] theorem setBoot_channels (p : BootPhase) (s : State) : (setBoot p s).channels = s.channels := rfl
@[simp] theorem setBoot_syncs (p : BootPhase) (s : State) : (setBoot p s).syncs = s.syncs := rfl
@[simp] theorem setBoot_seq (p : BootPhase) (s : State) : (setBoot p s).seq = s.seq := rfl
@[simp] theorem setBoot_tables (p : BootPhase) (s : State) : (setBoot p s).tables = s.tables := rfl
@[simp] theorem setBoot_port (p : BootPhase) (s : State) : (setBoot p s).port = s.port := rfl
@[simp] theorem setBoot_records (p : BootPhase) (s : State) : (setBoot p s).records = s.records := rfl
@[simp] theorem setBoot_store (p : BootPhase) (s : State) : (setBoot p s).store = { s.store with boot := p } := rfl
@[simp] theorem setBoot_policy (p : BootPhase) (s : State) : (setBoot p s).policy = s.policy := rfl
@[simp] theorem setBoot_cmd (p : BootPhase) (s : State) : (setBoot p s).cmd = s.cmd := rfl
@[simp] theorem setBoot_status (p : BootPhase) (s : State) : (setBoot p s).status = s.status := rfl
@[simp] theorem setBoot_counters (p : BootPhase) (s : State) : (setBoot p s).counters = s.counters := rfl
@[simp] theorem setBoot_readData (p : BootPhase) (s : State) : (setBoot p s).readData = s.readData := rfl
@[simp] theorem setBoot_freeCount (p : BootPhase) (s : State) : (setBoot p s).freeCount = s.freeCount := rfl
@[simp] theorem setBoot_pending (p : BootPhase) (s : State) : (setBoot p s).pending = s.pending := rfl

/-! ### startOperation -/
@[simp] theorem startOperation_inReset (op : StoreOperation) (slot : BitVec 3) (j : StoreJob) (s : State) :
    (startOperation op slot j s).inReset = s.inReset := rfl
@[simp] theorem startOperation_timebase (op : StoreOperation) (slot : BitVec 3) (j : StoreJob) (s : State) :
    (startOperation op slot j s).timebase = s.timebase := rfl
@[simp] theorem startOperation_triggers (op : StoreOperation) (slot : BitVec 3) (j : StoreJob) (s : State) :
    (startOperation op slot j s).triggers = s.triggers := rfl
@[simp] theorem startOperation_channels (op : StoreOperation) (slot : BitVec 3) (j : StoreJob) (s : State) :
    (startOperation op slot j s).channels = s.channels := rfl
@[simp] theorem startOperation_syncs (op : StoreOperation) (slot : BitVec 3) (j : StoreJob) (s : State) :
    (startOperation op slot j s).syncs = s.syncs := rfl
@[simp] theorem startOperation_seq (op : StoreOperation) (slot : BitVec 3) (j : StoreJob) (s : State) :
    (startOperation op slot j s).seq = s.seq := rfl
@[simp] theorem startOperation_tables (op : StoreOperation) (slot : BitVec 3) (j : StoreJob) (s : State) :
    (startOperation op slot j s).tables = s.tables := rfl
@[simp] theorem startOperation_port (op : StoreOperation) (slot : BitVec 3) (j : StoreJob) (s : State) :
    (startOperation op slot j s).port = s.port := rfl
@[simp] theorem startOperation_records (op : StoreOperation) (slot : BitVec 3) (j : StoreJob) (s : State) :
    (startOperation op slot j s).records = s.records := rfl
@[simp] theorem startOperation_store (op : StoreOperation) (slot : BitVec 3) (j : StoreJob) (s : State) :
    (startOperation op slot j s).store = { s.store with operation := op, slot := slot, job := j, abortPending := false, quiet := false } := rfl
@[simp] theorem startOperation_policy (op : StoreOperation) (slot : BitVec 3) (j : StoreJob) (s : State) :
    (startOperation op slot j s).policy = s.policy := rfl
@[simp] theorem startOperation_cmd (op : StoreOperation) (slot : BitVec 3) (j : StoreJob) (s : State) :
    (startOperation op slot j s).cmd = s.cmd := rfl
@[simp] theorem startOperation_status (op : StoreOperation) (slot : BitVec 3) (j : StoreJob) (s : State) :
    (startOperation op slot j s).status = s.status := rfl
@[simp] theorem startOperation_counters (op : StoreOperation) (slot : BitVec 3) (j : StoreJob) (s : State) :
    (startOperation op slot j s).counters = s.counters := rfl
@[simp] theorem startOperation_readData (op : StoreOperation) (slot : BitVec 3) (j : StoreJob) (s : State) :
    (startOperation op slot j s).readData = s.readData := rfl
@[simp] theorem startOperation_freeCount (op : StoreOperation) (slot : BitVec 3) (j : StoreJob) (s : State) :
    (startOperation op slot j s).freeCount = s.freeCount := rfl
@[simp] theorem startOperation_pending (op : StoreOperation) (slot : BitVec 3) (j : StoreJob) (s : State) :
    (startOperation op slot j s).pending = s.pending := rfl

/-! ### takeFree -/
@[simp] theorem takeFree_inReset (s : State) : (takeFree s).inReset = s.inReset := rfl
@[simp] theorem takeFree_timebase (s : State) : (takeFree s).timebase = s.timebase := rfl
@[simp] theorem takeFree_triggers (s : State) : (takeFree s).triggers = s.triggers := rfl
@[simp] theorem takeFree_channels (s : State) : (takeFree s).channels = s.channels := rfl
@[simp] theorem takeFree_syncs (s : State) : (takeFree s).syncs = s.syncs := rfl
@[simp] theorem takeFree_seq (s : State) : (takeFree s).seq = s.seq := rfl
@[simp] theorem takeFree_tables (s : State) : (takeFree s).tables = s.tables := rfl
@[simp] theorem takeFree_port (s : State) : (takeFree s).port = s.port := rfl
@[simp] theorem takeFree_records (s : State) : (takeFree s).records = s.records := rfl
@[simp] theorem takeFree_store (s : State) : (takeFree s).store = s.store := rfl
@[simp] theorem takeFree_policy (s : State) : (takeFree s).policy = s.policy := rfl
@[simp] theorem takeFree_cmd (s : State) : (takeFree s).cmd = s.cmd := rfl
@[simp] theorem takeFree_status (s : State) : (takeFree s).status = s.status := rfl
@[simp] theorem takeFree_counters (s : State) : (takeFree s).counters = s.counters := rfl
@[simp] theorem takeFree_readData (s : State) : (takeFree s).readData = s.readData := rfl
@[simp] theorem takeFree_freeCount (s : State) : (takeFree s).freeCount = s.freeCount + 1 := rfl
@[simp] theorem takeFree_pending (s : State) : (takeFree s).pending = s.pending := rfl

/-! ### refill -/
@[simp] theorem refill_inReset (s : State) : (refill s).inReset = s.inReset := rfl
@[simp] theorem refill_timebase (s : State) : (refill s).timebase = s.timebase := rfl
@[simp] theorem refill_triggers (s : State) : (refill s).triggers = s.triggers := rfl
@[simp] theorem refill_channels (s : State) :
    (refill s).channels = { s.channels with channel := Vector.ofFn fun i =>
      { s.channels.channel[i] with credit := refilled s.channels.channel[i] } } := rfl
@[simp] theorem refill_syncs (s : State) : (refill s).syncs = s.syncs := rfl
@[simp] theorem refill_seq (s : State) : (refill s).seq = s.seq := rfl
@[simp] theorem refill_tables (s : State) : (refill s).tables = s.tables := rfl
@[simp] theorem refill_port (s : State) : (refill s).port = s.port := rfl
@[simp] theorem refill_records (s : State) : (refill s).records = s.records := rfl
@[simp] theorem refill_store (s : State) : (refill s).store = s.store := rfl
@[simp] theorem refill_policy (s : State) : (refill s).policy = s.policy := rfl
@[simp] theorem refill_cmd (s : State) : (refill s).cmd = s.cmd := rfl
@[simp] theorem refill_status (s : State) : (refill s).status = s.status := rfl
@[simp] theorem refill_counters (s : State) : (refill s).counters = s.counters := rfl
@[simp] theorem refill_readData (s : State) : (refill s).readData = s.readData := rfl
@[simp] theorem refill_freeCount (s : State) : (refill s).freeCount = s.freeCount := rfl
@[simp] theorem refill_pending (s : State) : (refill s).pending = s.pending := rfl

end Sys2Proof.Machine
end

