-- ==== Sys2Proof/Laws/Commands.lean ====
section
/-! SUPPORT. What the shared operations of the Command Unit can do, and that every command answers a next state. -/
namespace Sys2Proof.Machine

/-! ### Taking a command -/

theorem firstRefusal_nil : firstRefusal [] = none := rfl

/-- A refusal that applies comes before all behind it. -/
theorem firstRefusal_cons_applies {b : Bool} (h : b = true) (r : ResultCode) (rest : List (Bool × ResultCode)) :
    firstRefusal ((b, r) :: rest) = some (r, 0) := by simp [firstRefusal, h]

/-- A refusal that does not apply is passed over. -/
theorem firstRefusal_cons_passes {b : Bool} (h : b = false) (r : ResultCode) (rest : List (Bool × ResultCode)) :
    firstRefusal ((b, r) :: rest) = firstRefusal rest := by simp [firstRefusal, h]

/-- No refusal of a list applies exactly when every condition is false. -/
theorem firstRefusal_eq_none {l : List (Bool × ResultCode)} : firstRefusal l = none ↔ ∀ x ∈ l, x.1 = false := by
  induction l with
  | nil => simp [firstRefusal]
  | cons x l ih =>
    obtain ⟨b, r⟩ := x
    cases b <;> simp [firstRefusal, ih]

/-- A refusal by a list has CMD_DETAIL 0. -/
theorem firstRefusal_detail {l : List (Bool × ResultCode)} {r : ResultCode} {d : Word}
    (h : firstRefusal l = some (r, d)) : d = 0 := by
  induction l with
  | nil => simp [firstRefusal] at h
  | cons x l ih =>
    obtain ⟨b, r'⟩ := x
    cases b
    · exact ih (by simpa [firstRefusal] using h)
    · simp [firstRefusal] at h
      exact h.2.symm

/-- Everything that the taking of a known command can do. -/
theorem takeCommand_cases (code : Word) (args : Bool) (refusal : Option (ResultCode × Word)) (effect : State → State)
    (s : State) :
    (s.inReset = true ∧ takeCommand code args refusal effect s = s) ∨
    (s.inReset = false ∧ booting s = true ∧ takeCommand code args refusal effect s = verdict code .booting 0 s) ∨
    (s.inReset = false ∧ booting s = false ∧ args = false ∧
      takeCommand code args refusal effect s = verdict code .badArgument 0 s) ∨
    (s.inReset = false ∧ booting s = false ∧ args = true ∧ ∃ r d, refusal = some (r, d) ∧
      takeCommand code args refusal effect s = verdict code r d s) ∨
    (s.inReset = false ∧ booting s = false ∧ args = true ∧ refusal = none ∧
      takeCommand code args refusal effect s = effect (verdict code .accepted 0 s)) := by
  cases h1 : s.inReset <;> cases h2 : booting s <;> cases args <;> rcases refusal with _ | ⟨r, d⟩ <;>
    simp [takeCommand, h1, h2]

/-- A command that nothing refuses has its owner's effect. -/
theorem takeCommand_accepted {code : Word} {args : Bool} {refusal : Option (ResultCode × Word)} {effect : State → State}
    {s : State} (h1 : s.inReset = false) (h2 : booting s = false) (h3 : args = true) (h4 : refusal = none) :
    takeCommand code args refusal effect s = effect (verdict code .accepted 0 s) := by
  simp [takeCommand, h1, h2, h3, h4]

/-- A command that its owner refuses leaves its verdict and nothing else. -/
theorem takeCommand_refused {code : Word} {args : Bool} {refusal : Option (ResultCode × Word)} {effect : State → State}
    {s : State} {r : ResultCode} {d : Word} (h1 : s.inReset = false) (h2 : booting s = false) (h3 : args = true)
    (h4 : refusal = some (r, d)) : takeCommand code args refusal effect s = verdict code r d s := by
  simp [takeCommand, h1, h2, h3, h4]

/-- A command whose arguments are out of range leaves BAD_ARGUMENT and nothing else. -/
theorem takeCommand_badArgument {code : Word} {args : Bool} {refusal : Option (ResultCode × Word)}
    {effect : State → State} {s : State} (h1 : s.inReset = false) (h2 : booting s = false) (h3 : args = false) :
    takeCommand code args refusal effect s = verdict code .badArgument 0 s := by simp [takeCommand, h1, h2, h3]

/-- While the part is booting a known command leaves BOOTING and nothing else. -/
theorem takeCommand_booting {code : Word} {args : Bool} {refusal : Option (ResultCode × Word)} {effect : State → State}
    {s : State} (h1 : s.inReset = false) (h2 : booting s = true) :
    takeCommand code args refusal effect s = verdict code .booting 0 s := by simp [takeCommand, h1, h2]

/-- Whatever the verdict keeps and the effect keeps, the taking of a command keeps. -/
theorem takeCommand_keeps {p : State → Prop} {code : Word} {args : Bool} {refusal : Option (ResultCode × Word)}
    {effect : State → State} {s : State} (h : p s) (hv : ∀ r d, p (verdict code r d s))
    (he : s.inReset = false → booting s = false → args = true → refusal = none →
      p (effect (verdict code .accepted 0 s))) :
    p (takeCommand code args refusal effect s) := by
  rcases takeCommand_cases code args refusal effect s with ⟨_, h'⟩ | ⟨_, _, h'⟩ | ⟨_, _, _, h'⟩ | ⟨_, _, _, r, d, _, h'⟩ |
      ⟨h1, h2, h3, h4, h'⟩ <;> rw [h']
  · exact h
  · exact hv _ _
  · exact hv _ _
  · exact hv _ _
  · exact he h1 h2 h3 h4

/-! ### Events and reads -/

theorem outOfReset_released {effect : State → State} {s : State} (h : s.inReset = false) :
    outOfReset effect s = effect s := by simp [outOfReset, h]

theorem outOfReset_asserted {effect : State → State} {s : State} (h : s.inReset = true) : outOfReset effect s = s := by
  simp [outOfReset, h]

theorem readAccess_released {value : State → Word} {effect : State → State} {s : State} (h : s.inReset = false) :
    readAccess value effect s = { effect s with readData := value s } := by simp [readAccess, h]

theorem readAccess_asserted {value : State → Word} {effect : State → State} {s : State} (h : s.inReset = true) :
    readAccess value effect s = { s with readData := 0 } := by simp [readAccess, h]

/-! ### Every command answers a next state -/

/-- No command faults and none is refused by the model. -/
theorem exec_answers_next (c : Instr) (s : State) : ∃ t, exec c s = .next t := by cases c <;> exact ⟨_, rfl⟩

/-- Every step answers a next state. -/
theorem step_answers_next (s : State) : ∃ t, step s = .next t := by
  unfold step
  split
  · exact ⟨_, rfl⟩
  · exact exec_answers_next _ _

/-- Everything that the step on an empty queue can do. -/
theorem idleStep_cases (s : State) :
    (s.inReset = true ∧ idleStep s = s) ∨
    (s.inReset = false ∧ (dueEvents s = [] ∨ instantSpent s = true) ∧ idleStep s = microsecond s) ∨
    (s.inReset = false ∧ dueEvents s ≠ [] ∧ instantSpent s = false ∧ idleStep s = deliver (dueEvents s) s) := by
  cases h1 : s.inReset <;> by_cases h2 : dueEvents s = [] <;> cases h3 : instantSpent s <;> simp [idleStep, h1, h2, h3]

/-- Everything that a step can do: time passes on an empty queue, or the front command is executed. -/
theorem step_cases {s t : State} (h : step s = .next t) :
    (s.pending = [] ∧ t = idleStep s) ∨ ∃ c rest, s.pending = c :: rest ∧ exec c { s with pending := rest } = .next t := by
  unfold step at h
  split at h
  · rename_i hp
    exact .inl ⟨hp, by simpa using h.symm⟩
  · rename_i c rest hp
    exact .inr ⟨c, rest, hp, h⟩

theorem withFetchWord_eq (s : State) (nbits w : Nat) : s.withFetchWord nbits w = s := rfl

end Sys2Proof.Machine
end

