-- ==== Sys2Proof/Laws/Encoding.lean ====
section
/-! SUPPORT. How many words the encodings of 10.4 and the store images have, and what a header word's fields read as. -/
namespace Sys2Proof.Machine

theorem length_flatMap_encodeChannel (es : List ChannelEntry) : (es.flatMap encodeChannel).length = 2 * es.length := by
  induction es with
  | nil => rfl
  | cons e es ih =>
    simp only [List.flatMap_cons, List.length_append, ih, List.length_cons]
    simp [encodeChannel]
    omega

theorem length_flatMap_encodeSync (es : List SyncEntry) : (es.flatMap encodeSync).length = 2 * es.length := by
  induction es with
  | nil => rfl
  | cons e es ih =>
    simp only [List.flatMap_cons, List.length_append, ih, List.length_cons]
    simp [encodeSync]
    omega

@[simp] theorem length_encodeRecord (r : StepRecord) :
    (encodeRecord r).length = 4 + 2 * r.channels.length + 2 * r.syncs.length := by
  simp only [encodeRecord, List.length_cons, List.length_append, length_flatMap_encodeChannel, length_flatMap_encodeSync]
  omega

/-- The list lengths of a record in the ranges of R2. -/
theorem StepRecord.wf_lengths {r : StepRecord} (h : r.wf = true) : r.channels.length ≤ 8 ∧ r.syncs.length ≤ 4 := by
  simp only [StepRecord.wf, Bool.and_eq_true, decide_eq_true_eq] at h
  exact ⟨h.1.1.1.1.1.2, h.1.1.1.1.2⟩

/-- The value of a record's header word. -/
theorem toNat_encodeHeader {r : StepRecord} (h : r.wf = true) :
    (encodeHeader r).toNat = r.tag.toNat * 256 + r.channels.length * 16 + r.syncs.length := by
  obtain ⟨h1, h2⟩ := StepRecord.wf_lengths h
  have h3 := r.tag.isLt
  simp only [encodeHeader, word, BitVec.toNat_ofNat]
  omega

/-- The channel count that a record's header word declares. -/
theorem headerChannels_encodeHeader {r : StepRecord} (h : r.wf = true) :
    headerChannels (encodeHeader r) = r.channels.length := by
  obtain ⟨h1, h2⟩ := StepRecord.wf_lengths h
  simp only [headerChannels, bits, toNat_encodeHeader h]
  omega

/-- The sync count that a record's header word declares. -/
theorem headerSyncs_encodeHeader {r : StepRecord} (h : r.wf = true) : headerSyncs (encodeHeader r) = r.syncs.length := by
  obtain ⟨h1, h2⟩ := StepRecord.wf_lengths h
  simp only [headerSyncs, bits, toNat_encodeHeader h]
  omega

theorem length_stepImage_le {e : Option StepRecord} (h : ∀ r ∈ e, r.wf = true) : (stepImage e).length ≤ 28 := by
  cases e with
  | none => simp [stepImage]
  | some r =>
    obtain ⟨h1, h2⟩ := StepRecord.wf_lengths (h r rfl)
    simp only [stepImage, length_encodeRecord]
    omega

theorem length_stepArea {e : Option StepRecord} (h : ∀ r ∈ e, r.wf = true) : (stepArea e).length = 28 := by
  have := length_stepImage_le h
  simp only [stepArea, List.length_append, List.length_replicate]
  omega

theorem length_flatMap_stepArea (es : List (Option StepRecord)) (h : ∀ e ∈ es, ∀ r ∈ e, r.wf = true) :
    (es.flatMap stepArea).length = 28 * es.length := by
  induction es with
  | nil => rfl
  | cons e es ih =>
    have h1 := length_stepArea (h e (by simp))
    have h2 := ih fun x hx => h x (by simp [hx])
    simp only [List.flatMap_cons, List.length_append, h1, h2, List.length_cons]
    omega

/-- The image of a well-formed bank has 4096 words (R145). -/
theorem length_imageWords {b : Bank} (h : b.wf) : (imageWords b).length = 4096 := by
  have h1 : ∀ e ∈ b.steps.toList, ∀ r ∈ e, r.wf = true := by
    intro e he r hr
    obtain ⟨i, hi, rfl⟩ := List.getElem_of_mem he
    have hi' : i < 128 := by simpa using hi
    exact h.1 ⟨i, hi'⟩ r (by simpa using hr)
  have h2 := length_flatMap_stepArea _ h1
  have h3 : b.steps.toList.length = 128 := by simp
  have h4 := h.2
  have h5 : (b.order.map encodeOrder ++ List.replicate (512 - b.order.length) (0 : Word)).length = 512 := by
    rw [List.length_append, List.length_map, List.length_replicate]
    omega
  unfold imageWords
  rw [List.length_append, h2, h3, h5]

/-- Each of the eight image sectors of a well-formed bank has 512 words. -/
theorem length_imageSector {b : Bank} (h : b.wf) {k : Nat} (h1 : 1 ≤ k) (h2 : k ≤ 8) : (imageSector b k).length = 512 := by
  have := length_imageWords h
  simp only [imageSector, List.length_take, List.length_drop, this]
  omega

end Sys2Proof.Machine
end

