-- ==== Sys2Proof/Laws/Frames.lean ====
section
/-! SUPPORT. What the operations that choose among updates leave unchanged, and what every transition to STOPPED sets. -/
namespace Sys2Proof.Machine

/-! ### endReadSession -/
@[simp] theorem endReadSession_inReset (s : State) : (endReadSession s).inReset = s.inReset := by
  unfold endReadSession; split <;> rfl
@[simp] theorem endReadSession_timebase (s : State) : (endReadSession s).timebase = s.timebase := by
  unfold endReadSession; split <;> rfl
@[simp] theorem endReadSession_triggers (s : State) : (endReadSession s).triggers = s.triggers := by
  unfold endReadSession; split <;> rfl
@[simp] theorem endReadSession_channels (s : State) : (endReadSession s).channels = s.channels := by
  unfold endReadSession; split <;> rfl
@[simp] theorem endReadSession_syncs (s : State) : (endReadSession s).syncs = s.syncs := by
  unfold endReadSession; split <;> rfl
@[simp] theorem endReadSession_seq (s : State) : (endReadSession s).seq = s.seq := by
  unfold endReadSession; split <;> rfl
@[simp] theorem endReadSession_tables (s : State) : (endReadSession s).tables = s.tables := by
  unfold endReadSession; split <;> rfl
@[simp] theorem endReadSession_records (s : State) : (endReadSession s).records = s.records := by
  unfold endReadSession; split <;> rfl
@[simp] theorem endReadSession_store (s : State) : (endReadSession s).store = s.store := by
  unfold endReadSession; split <;> rfl
@[simp] theorem endReadSession_policy (s : State) : (endReadSession s).policy = s.policy := by
  unfold endReadSession; split <;> rfl
@[simp] theorem endReadSession_cmd (s : State) : (endReadSession s).cmd = s.cmd := by
  unfold endReadSession; split <;> rfl
@[simp] theorem endReadSession_counters (s : State) : (endReadSession s).counters = s.counters := by
  unfold endReadSession; split <;> rfl
@[simp] theorem endReadSession_readData (s : State) : (endReadSession s).readData = s.readData := by
  unfold endReadSession; split <;> rfl
@[simp] theorem endReadSession_freeCount (s : State) : (endReadSession s).freeCount = s.freeCount := by
  unfold endReadSession; split <;> rfl
@[simp] theorem endReadSession_pending (s : State) : (endReadSession s).pending = s.pending := by
  unfold endReadSession; split <;> rfl

/-! ### endStagingRead -/
@[simp] theorem endStagingRead_inReset (s : State) : (endStagingRead s).inReset = s.inReset := by
  unfold endStagingRead; split <;> rfl
@[simp] theorem endStagingRead_timebase (s : State) : (endStagingRead s).timebase = s.timebase := by
  unfold endStagingRead; split <;> rfl
@[simp] theorem endStagingRead_triggers (s : State) : (endStagingRead s).triggers = s.triggers := by
  unfold endStagingRead; split <;> rfl
@[simp] theorem endStagingRead_channels (s : State) : (endStagingRead s).channels = s.channels := by
  unfold endStagingRead; split <;> rfl
@[simp] theorem endStagingRead_syncs (s : State) : (endStagingRead s).syncs = s.syncs := by
  unfold endStagingRead; split <;> rfl
@[simp] theorem endStagingRead_seq (s : State) : (endStagingRead s).seq = s.seq := by
  unfold endStagingRead; split <;> rfl
@[simp] theorem endStagingRead_tables (s : State) : (endStagingRead s).tables = s.tables := by
  unfold endStagingRead; split <;> rfl
@[simp] theorem endStagingRead_records (s : State) : (endStagingRead s).records = s.records := by
  unfold endStagingRead; split <;> rfl
@[simp] theorem endStagingRead_store (s : State) : (endStagingRead s).store = s.store := by
  unfold endStagingRead; split <;> rfl
@[simp] theorem endStagingRead_policy (s : State) : (endStagingRead s).policy = s.policy := by
  unfold endStagingRead; split <;> rfl
@[simp] theorem endStagingRead_cmd (s : State) : (endStagingRead s).cmd = s.cmd := by
  unfold endStagingRead; split <;> rfl
@[simp] theorem endStagingRead_counters (s : State) : (endStagingRead s).counters = s.counters := by
  unfold endStagingRead; split <;> rfl
@[simp] theorem endStagingRead_readData (s : State) : (endStagingRead s).readData = s.readData := by
  unfold endStagingRead; split <;> rfl
@[simp] theorem endStagingRead_freeCount (s : State) : (endStagingRead s).freeCount = s.freeCount := by
  unfold endStagingRead; split <;> rfl
@[simp] theorem endStagingRead_pending (s : State) : (endStagingRead s).pending = s.pending := by
  unfold endStagingRead; split <;> rfl

/-! ### swapBanks -/
@[simp] theorem swapBanks_inReset (s : State) : (swapBanks s).inReset = s.inReset := by simp [swapBanks]
@[simp] theorem swapBanks_timebase (s : State) : (swapBanks s).timebase = s.timebase := by simp [swapBanks]
@[simp] theorem swapBanks_triggers (s : State) : (swapBanks s).triggers = s.triggers := by simp [swapBanks]
@[simp] theorem swapBanks_channels (s : State) : (swapBanks s).channels = s.channels := by simp [swapBanks]
@[simp] theorem swapBanks_syncs (s : State) : (swapBanks s).syncs = s.syncs := by simp [swapBanks]
@[simp] theorem swapBanks_records (s : State) : (swapBanks s).records = s.records := by simp [swapBanks]
@[simp] theorem swapBanks_store (s : State) : (swapBanks s).store = s.store := by simp [swapBanks]
@[simp] theorem swapBanks_policy (s : State) : (swapBanks s).policy = s.policy := by simp [swapBanks]
@[simp] theorem swapBanks_cmd (s : State) : (swapBanks s).cmd = s.cmd := by simp [swapBanks]
@[simp] theorem swapBanks_counters (s : State) : (swapBanks s).counters = s.counters := by simp [swapBanks]
@[simp] theorem swapBanks_readData (s : State) : (swapBanks s).readData = s.readData := by simp [swapBanks]
@[simp] theorem swapBanks_freeCount (s : State) : (swapBanks s).freeCount = s.freeCount := by simp [swapBanks]
@[simp] theorem swapBanks_pending (s : State) : (swapBanks s).pending = s.pending := by simp [swapBanks]
@[simp] theorem swapBanks_tables (s : State) :
    (swapBanks s).tables = { s.tables with active := s.tables.active.other, commitPending := false } := by simp [swapBanks]
@[simp] theorem swapBanks_seq (s : State) :
    (swapBanks s).seq = { s.seq with position := 0, repetition := 1 } := by simp [swapBanks]

/-! ### swapIfPending -/
@[simp] theorem swapIfPending_inReset (s : State) : (swapIfPending s).inReset = s.inReset := by
  unfold swapIfPending; split <;> simp
@[simp] theorem swapIfPending_timebase (s : State) : (swapIfPending s).timebase = s.timebase := by
  unfold swapIfPending; split <;> simp
@[simp] theorem swapIfPending_triggers (s : State) : (swapIfPending s).triggers = s.triggers := by
  unfold swapIfPending; split <;> simp
@[simp] theorem swapIfPending_channels (s : State) : (swapIfPending s).channels = s.channels := by
  unfold swapIfPending; split <;> simp
@[simp] theorem swapIfPending_syncs (s : State) : (swapIfPending s).syncs = s.syncs := by
  unfold swapIfPending; split <;> simp
@[simp] theorem swapIfPending_records (s : State) : (swapIfPending s).records = s.records := by
  unfold swapIfPending; split <;> simp
@[simp] theorem swapIfPending_store (s : State) : (swapIfPending s).store = s.store := by
  unfold swapIfPending; split <;> simp
@[simp] theorem swapIfPending_policy (s : State) : (swapIfPending s).policy = s.policy := by
  unfold swapIfPending; split <;> simp
@[simp] theorem swapIfPending_cmd (s : State) : (swapIfPending s).cmd = s.cmd := by
  unfold swapIfPending; split <;> simp
@[simp] theorem swapIfPending_counters (s : State) : (swapIfPending s).counters = s.counters := by
  unfold swapIfPending; split <;> simp
@[simp] theorem swapIfPending_readData (s : State) : (swapIfPending s).readData = s.readData := by
  unfold swapIfPending; split <;> simp
@[simp] theorem swapIfPending_freeCount (s : State) : (swapIfPending s).freeCount = s.freeCount := by
  unfold swapIfPending; split <;> simp
@[simp] theorem swapIfPending_pending (s : State) : (swapIfPending s).pending = s.pending := by
  unfold swapIfPending; split <;> simp

/-! ### emit -/
@[simp] theorem emit_inReset (o : ShotOutcome) (c : StepContext) (s : State) : (emit o c s).inReset = s.inReset := by
  unfold emit; split <;> (try split) <;> rfl
@[simp] theorem emit_timebase (o : ShotOutcome) (c : StepContext) (s : State) : (emit o c s).timebase = s.timebase := by
  unfold emit; split <;> (try split) <;> rfl
@[simp] theorem emit_triggers (o : ShotOutcome) (c : StepContext) (s : State) : (emit o c s).triggers = s.triggers := by
  unfold emit; split <;> (try split) <;> rfl
@[simp] theorem emit_channels (o : ShotOutcome) (c : StepContext) (s : State) : (emit o c s).channels = s.channels := by
  unfold emit; split <;> (try split) <;> rfl
@[simp] theorem emit_syncs (o : ShotOutcome) (c : StepContext) (s : State) : (emit o c s).syncs = s.syncs := by
  unfold emit; split <;> (try split) <;> rfl
@[simp] theorem emit_tables (o : ShotOutcome) (c : StepContext) (s : State) : (emit o c s).tables = s.tables := by
  unfold emit; split <;> (try split) <;> rfl
@[simp] theorem emit_port (o : ShotOutcome) (c : StepContext) (s : State) : (emit o c s).port = s.port := by
  unfold emit; split <;> (try split) <;> rfl
@[simp] theorem emit_store (o : ShotOutcome) (c : StepContext) (s : State) : (emit o c s).store = s.store := by
  unfold emit; split <;> (try split) <;> rfl
@[simp] theorem emit_policy (o : ShotOutcome) (c : StepContext) (s : State) : (emit o c s).policy = s.policy := by
  unfold emit; split <;> (try split) <;> rfl
@[simp] theorem emit_cmd (o : ShotOutcome) (c : StepContext) (s : State) : (emit o c s).cmd = s.cmd := by
  unfold emit; split <;> (try split) <;> rfl
@[simp] theorem emit_readData (o : ShotOutcome) (c : StepContext) (s : State) : (emit o c s).readData = s.readData := by
  unfold emit; split <;> (try split) <;> rfl
@[simp] theorem emit_freeCount (o : ShotOutcome) (c : StepContext) (s : State) :
    (emit o c s).freeCount = s.freeCount := by
  unfold emit; split <;> (try split) <;> rfl
@[simp] theorem emit_pending (o : ShotOutcome) (c : StepContext) (s : State) : (emit o c s).pending = s.pending := by
  unfold emit; split <;> (try split) <;> rfl
@[simp] theorem emit_seq (o : ShotOutcome) (c : StepContext) (s : State) :
    (emit o c s).seq = { s.seq with sequence := s.seq.sequence + 1 } := by
  unfold emit; split <;> (try split) <;> rfl

/-! ### accountForStep -/
@[simp] theorem accountForStep_inReset (o : ShotOutcome) (s : State) : (accountForStep o s).inReset = s.inReset := by
  unfold accountForStep; split <;> (try split) <;> simp
@[simp] theorem accountForStep_timebase (o : ShotOutcome) (s : State) : (accountForStep o s).timebase = s.timebase := by
  unfold accountForStep; split <;> (try split) <;> simp
@[simp] theorem accountForStep_triggers (o : ShotOutcome) (s : State) : (accountForStep o s).triggers = s.triggers := by
  unfold accountForStep; split <;> (try split) <;> simp
@[simp] theorem accountForStep_channels (o : ShotOutcome) (s : State) : (accountForStep o s).channels = s.channels := by
  unfold accountForStep; split <;> (try split) <;> simp
@[simp] theorem accountForStep_syncs (o : ShotOutcome) (s : State) : (accountForStep o s).syncs = s.syncs := by
  unfold accountForStep; split <;> (try split) <;> simp
@[simp] theorem accountForStep_tables (o : ShotOutcome) (s : State) : (accountForStep o s).tables = s.tables := by
  unfold accountForStep; split <;> (try split) <;> simp
@[simp] theorem accountForStep_port (o : ShotOutcome) (s : State) : (accountForStep o s).port = s.port := by
  unfold accountForStep; split <;> (try split) <;> simp
@[simp] theorem accountForStep_store (o : ShotOutcome) (s : State) : (accountForStep o s).store = s.store := by
  unfold accountForStep; split <;> (try split) <;> simp
@[simp] theorem accountForStep_policy (o : ShotOutcome) (s : State) : (accountForStep o s).policy = s.policy := by
  unfold accountForStep; split <;> (try split) <;> simp
@[simp] theorem accountForStep_cmd (o : ShotOutcome) (s : State) : (accountForStep o s).cmd = s.cmd := by
  unfold accountForStep; split <;> (try split) <;> simp
@[simp] theorem accountForStep_readData (o : ShotOutcome) (s : State) : (accountForStep o s).readData = s.readData := by
  unfold accountForStep; split <;> (try split) <;> simp
@[simp] theorem accountForStep_freeCount (o : ShotOutcome) (s : State) :
    (accountForStep o s).freeCount = s.freeCount := by
  unfold accountForStep; split <;> (try split) <;> simp
@[simp] theorem accountForStep_pending (o : ShotOutcome) (s : State) : (accountForStep o s).pending = s.pending := by
  unfold accountForStep; split <;> (try split) <;> simp
/-- The account of the step in progress changes the sequence number and nothing else of the Sequencer. -/
theorem accountForStep_seq (o : ShotOutcome) (s : State) :
    (accountForStep o s).seq = { s.seq with sequence := (accountForStep o s).seq.sequence } := by
  unfold accountForStep; split <;> (try split) <;> simp
theorem swapIfPending_seq (s : State) :
    (swapIfPending s).seq = { s.seq with
      position := (swapIfPending s).seq.position, repetition := (swapIfPending s).seq.repetition } := by
  unfold swapIfPending; split <;> simp

/-! ### stopSequencer -/
@[simp] theorem stopSequencer_inReset (why : StopReason) (s : State) :
    (stopSequencer why s).inReset = s.inReset := by simp [stopSequencer]
@[simp] theorem stopSequencer_timebase (why : StopReason) (s : State) :
    (stopSequencer why s).timebase = s.timebase := by simp [stopSequencer]
@[simp] theorem stopSequencer_store (why : StopReason) (s : State) :
    (stopSequencer why s).store = s.store := by simp [stopSequencer]
@[simp] theorem stopSequencer_policy (why : StopReason) (s : State) :
    (stopSequencer why s).policy = s.policy := by simp [stopSequencer]
@[simp] theorem stopSequencer_cmd (why : StopReason) (s : State) :
    (stopSequencer why s).cmd = s.cmd := by simp [stopSequencer]
@[simp] theorem stopSequencer_readData (why : StopReason) (s : State) :
    (stopSequencer why s).readData = s.readData := by simp [stopSequencer]
@[simp] theorem stopSequencer_freeCount (why : StopReason) (s : State) :
    (stopSequencer why s).freeCount = s.freeCount := by simp [stopSequencer]
@[simp] theorem stopSequencer_pending (why : StopReason) (s : State) :
    (stopSequencer why s).pending = s.pending := by simp [stopSequencer]
@[simp] theorem stopSequencer_channels (why : StopReason) (s : State) :
    (stopSequencer why s).channels = (closeGates s).channels := by simp [stopSequencer]
@[simp] theorem stopSequencer_syncs (why : StopReason) (s : State) :
    (stopSequencer why s).syncs = (cutPulses s).syncs := by simp [stopSequencer]
@[simp] theorem stopSequencer_triggers (why : StopReason) (s : State) :
    (stopSequencer why s).triggers = { s.triggers with queue := [] } := by simp [stopSequencer]
/-- What every transition to STOPPED leaves of the Sequencer: all but the cursor, which a swap sets to 0/1, and the sequence
number, which an emission takes. -/
theorem stopSequencer_seq (why : StopReason) (s : State) :
    (stopSequencer why s).seq = { s.seq with
      state := .stopped
      stopReason := why
      pauseRequest := false
      holdTimer := none
      hold := .none
      context := none
      sequence := (stopSequencer why s).seq.sequence
      position := (stopSequencer why s).seq.position
      repetition := (stopSequencer why s).seq.repetition } := by
  have h : ∀ t u : State, u.seq = { t.seq with sequence := u.seq.sequence } →
      (swapIfPending (clearStep u)).seq = { t.seq with
        pauseRequest := false
        holdTimer := none
        hold := .none
        context := none
        sequence := (swapIfPending (clearStep u)).seq.sequence
        position := (swapIfPending (clearStep u)).seq.position
        repetition := (swapIfPending (clearStep u)).seq.repetition } := by
    intro t u hu
    rw [swapIfPending_seq]
    simp only [clearStep_seq]
    rw [hu]
  have h' := h s (flushTriggers (cutPulses (closeGates
    (accountForStep (if why = .creditAbort then .aborted else .stopped) s)))) (by simpa using accountForStep_seq _ s)
  simp only [stopSequencer, enterStopped_seq]
  rw [h']

/-! ### startGap -/
@[simp] theorem startGap_inReset (s : State) : (startGap s).inReset = s.inReset := by
  unfold startGap; split <;> (try split) <;> rfl
@[simp] theorem startGap_timebase (s : State) : (startGap s).timebase = s.timebase := by
  unfold startGap; split <;> (try split) <;> rfl
@[simp] theorem startGap_triggers (s : State) : (startGap s).triggers = s.triggers := by
  unfold startGap; split <;> (try split) <;> rfl
@[simp] theorem startGap_channels (s : State) : (startGap s).channels = s.channels := by
  unfold startGap; split <;> (try split) <;> rfl
@[simp] theorem startGap_syncs (s : State) : (startGap s).syncs = s.syncs := by
  unfold startGap; split <;> (try split) <;> rfl
@[simp] theorem startGap_tables (s : State) : (startGap s).tables = s.tables := by
  unfold startGap; split <;> (try split) <;> rfl
@[simp] theorem startGap_port (s : State) : (startGap s).port = s.port := by
  unfold startGap; split <;> (try split) <;> rfl
@[simp] theorem startGap_records (s : State) : (startGap s).records = s.records := by
  unfold startGap; split <;> (try split) <;> rfl
@[simp] theorem startGap_store (s : State) : (startGap s).store = s.store := by
  unfold startGap; split <;> (try split) <;> rfl
@[simp] theorem startGap_policy (s : State) : (startGap s).policy = s.policy := by
  unfold startGap; split <;> (try split) <;> rfl
@[simp] theorem startGap_cmd (s : State) : (startGap s).cmd = s.cmd := by
  unfold startGap; split <;> (try split) <;> rfl
@[simp] theorem startGap_status (s : State) : (startGap s).status = s.status := by
  unfold startGap; split <;> (try split) <;> rfl
@[simp] theorem startGap_counters (s : State) : (startGap s).counters = s.counters := by
  unfold startGap; split <;> (try split) <;> rfl
@[simp] theorem startGap_readData (s : State) : (startGap s).readData = s.readData := by
  unfold startGap; split <;> (try split) <;> rfl
@[simp] theorem startGap_freeCount (s : State) : (startGap s).freeCount = s.freeCount := by
  unfold startGap; split <;> (try split) <;> rfl
@[simp] theorem startGap_pending (s : State) : (startGap s).pending = s.pending := by
  unfold startGap; split <;> (try split) <;> rfl

/-! ### afterGateClose -/
@[simp] theorem afterGateClose_inReset (s : State) : (afterGateClose s).inReset = s.inReset := by
  unfold afterGateClose; split <;> (try split) <;> simp
@[simp] theorem afterGateClose_timebase (s : State) : (afterGateClose s).timebase = s.timebase := by
  unfold afterGateClose; split <;> (try split) <;> simp
@[simp] theorem afterGateClose_triggers (s : State) : (afterGateClose s).triggers = s.triggers := by
  unfold afterGateClose; split <;> (try split) <;> simp
@[simp] theorem afterGateClose_channels (s : State) : (afterGateClose s).channels = s.channels := by
  unfold afterGateClose; split <;> (try split) <;> simp
@[simp] theorem afterGateClose_syncs (s : State) : (afterGateClose s).syncs = s.syncs := by
  unfold afterGateClose; split <;> (try split) <;> simp
@[simp] theorem afterGateClose_tables (s : State) : (afterGateClose s).tables = s.tables := by
  unfold afterGateClose; split <;> (try split) <;> simp
@[simp] theorem afterGateClose_port (s : State) : (afterGateClose s).port = s.port := by
  unfold afterGateClose; split <;> (try split) <;> simp
@[simp] theorem afterGateClose_records (s : State) : (afterGateClose s).records = s.records := by
  unfold afterGateClose; split <;> (try split) <;> simp
@[simp] theorem afterGateClose_store (s : State) : (afterGateClose s).store = s.store := by
  unfold afterGateClose; split <;> (try split) <;> simp
@[simp] theorem afterGateClose_policy (s : State) : (afterGateClose s).policy = s.policy := by
  unfold afterGateClose; split <;> (try split) <;> simp
@[simp] theorem afterGateClose_cmd (s : State) : (afterGateClose s).cmd = s.cmd := by
  unfold afterGateClose; split <;> (try split) <;> simp
@[simp] theorem afterGateClose_status (s : State) : (afterGateClose s).status = s.status := by
  unfold afterGateClose; split <;> (try split) <;> simp
@[simp] theorem afterGateClose_counters (s : State) : (afterGateClose s).counters = s.counters := by
  unfold afterGateClose; split <;> (try split) <;> simp
@[simp] theorem afterGateClose_readData (s : State) : (afterGateClose s).readData = s.readData := by
  unfold afterGateClose; split <;> (try split) <;> simp
@[simp] theorem afterGateClose_freeCount (s : State) : (afterGateClose s).freeCount = s.freeCount := by
  unfold afterGateClose; split <;> (try split) <;> simp
@[simp] theorem afterGateClose_pending (s : State) : (afterGateClose s).pending = s.pending := by
  unfold afterGateClose; split <;> (try split) <;> simp

/-! ### noteSyncEnd -/
@[simp] theorem noteSyncEnd_inReset (s : State) : (noteSyncEnd s).inReset = s.inReset := by
  unfold noteSyncEnd; split <;> rfl
@[simp] theorem noteSyncEnd_timebase (s : State) : (noteSyncEnd s).timebase = s.timebase := by
  unfold noteSyncEnd; split <;> rfl
@[simp] theorem noteSyncEnd_triggers (s : State) : (noteSyncEnd s).triggers = s.triggers := by
  unfold noteSyncEnd; split <;> rfl
@[simp] theorem noteSyncEnd_channels (s : State) : (noteSyncEnd s).channels = s.channels := by
  unfold noteSyncEnd; split <;> rfl
@[simp] theorem noteSyncEnd_syncs (s : State) : (noteSyncEnd s).syncs = s.syncs := by
  unfold noteSyncEnd; split <;> rfl
@[simp] theorem noteSyncEnd_tables (s : State) : (noteSyncEnd s).tables = s.tables := by
  unfold noteSyncEnd; split <;> rfl
@[simp] theorem noteSyncEnd_port (s : State) : (noteSyncEnd s).port = s.port := by
  unfold noteSyncEnd; split <;> rfl
@[simp] theorem noteSyncEnd_records (s : State) : (noteSyncEnd s).records = s.records := by
  unfold noteSyncEnd; split <;> rfl
@[simp] theorem noteSyncEnd_store (s : State) : (noteSyncEnd s).store = s.store := by
  unfold noteSyncEnd; split <;> rfl
@[simp] theorem noteSyncEnd_policy (s : State) : (noteSyncEnd s).policy = s.policy := by
  unfold noteSyncEnd; split <;> rfl
@[simp] theorem noteSyncEnd_cmd (s : State) : (noteSyncEnd s).cmd = s.cmd := by
  unfold noteSyncEnd; split <;> rfl
@[simp] theorem noteSyncEnd_status (s : State) : (noteSyncEnd s).status = s.status := by
  unfold noteSyncEnd; split <;> rfl
@[simp] theorem noteSyncEnd_counters (s : State) : (noteSyncEnd s).counters = s.counters := by
  unfold noteSyncEnd; split <;> rfl
@[simp] theorem noteSyncEnd_readData (s : State) : (noteSyncEnd s).readData = s.readData := by
  unfold noteSyncEnd; split <;> rfl
@[simp] theorem noteSyncEnd_freeCount (s : State) : (noteSyncEnd s).freeCount = s.freeCount := by
  unfold noteSyncEnd; split <;> rfl
@[simp] theorem noteSyncEnd_pending (s : State) : (noteSyncEnd s).pending = s.pending := by
  unfold noteSyncEnd; split <;> rfl

/-! ### noteSyncCut -/
@[simp] theorem noteSyncCut_inReset (s : State) : (noteSyncCut s).inReset = s.inReset := by
  unfold noteSyncCut; split <;> rfl
@[simp] theorem noteSyncCut_timebase (s : State) : (noteSyncCut s).timebase = s.timebase := by
  unfold noteSyncCut; split <;> rfl
@[simp] theorem noteSyncCut_triggers (s : State) : (noteSyncCut s).triggers = s.triggers := by
  unfold noteSyncCut; split <;> rfl
@[simp] theorem noteSyncCut_channels (s : State) : (noteSyncCut s).channels = s.channels := by
  unfold noteSyncCut; split <;> rfl
@[simp] theorem noteSyncCut_syncs (s : State) : (noteSyncCut s).syncs = s.syncs := by
  unfold noteSyncCut; split <;> rfl
@[simp] theorem noteSyncCut_tables (s : State) : (noteSyncCut s).tables = s.tables := by
  unfold noteSyncCut; split <;> rfl
@[simp] theorem noteSyncCut_port (s : State) : (noteSyncCut s).port = s.port := by
  unfold noteSyncCut; split <;> rfl
@[simp] theorem noteSyncCut_records (s : State) : (noteSyncCut s).records = s.records := by
  unfold noteSyncCut; split <;> rfl
@[simp] theorem noteSyncCut_store (s : State) : (noteSyncCut s).store = s.store := by
  unfold noteSyncCut; split <;> rfl
@[simp] theorem noteSyncCut_policy (s : State) : (noteSyncCut s).policy = s.policy := by
  unfold noteSyncCut; split <;> rfl
@[simp] theorem noteSyncCut_cmd (s : State) : (noteSyncCut s).cmd = s.cmd := by
  unfold noteSyncCut; split <;> rfl
@[simp] theorem noteSyncCut_status (s : State) : (noteSyncCut s).status = s.status := by
  unfold noteSyncCut; split <;> rfl
@[simp] theorem noteSyncCut_counters (s : State) : (noteSyncCut s).counters = s.counters := by
  unfold noteSyncCut; split <;> rfl
@[simp] theorem noteSyncCut_readData (s : State) : (noteSyncCut s).readData = s.readData := by
  unfold noteSyncCut; split <;> rfl
@[simp] theorem noteSyncCut_freeCount (s : State) : (noteSyncCut s).freeCount = s.freeCount := by
  unfold noteSyncCut; split <;> rfl
@[simp] theorem noteSyncCut_pending (s : State) : (noteSyncCut s).pending = s.pending := by
  unfold noteSyncCut; split <;> rfl

/-! ### noteCut -/
@[simp] theorem noteCut_inReset (m : ChannelMask) (s : State) : (noteCut m s).inReset = s.inReset := by
  unfold noteCut; split <;> (try split) <;> rfl
@[simp] theorem noteCut_timebase (m : ChannelMask) (s : State) : (noteCut m s).timebase = s.timebase := by
  unfold noteCut; split <;> (try split) <;> rfl
@[simp] theorem noteCut_triggers (m : ChannelMask) (s : State) : (noteCut m s).triggers = s.triggers := by
  unfold noteCut; split <;> (try split) <;> rfl
@[simp] theorem noteCut_channels (m : ChannelMask) (s : State) : (noteCut m s).channels = s.channels := by
  unfold noteCut; split <;> (try split) <;> rfl
@[simp] theorem noteCut_syncs (m : ChannelMask) (s : State) : (noteCut m s).syncs = s.syncs := by
  unfold noteCut; split <;> (try split) <;> rfl
@[simp] theorem noteCut_tables (m : ChannelMask) (s : State) : (noteCut m s).tables = s.tables := by
  unfold noteCut; split <;> (try split) <;> rfl
@[simp] theorem noteCut_port (m : ChannelMask) (s : State) : (noteCut m s).port = s.port := by
  unfold noteCut; split <;> (try split) <;> rfl
@[simp] theorem noteCut_records (m : ChannelMask) (s : State) : (noteCut m s).records = s.records := by
  unfold noteCut; split <;> (try split) <;> rfl
@[simp] theorem noteCut_store (m : ChannelMask) (s : State) : (noteCut m s).store = s.store := by
  unfold noteCut; split <;> (try split) <;> rfl
@[simp] theorem noteCut_policy (m : ChannelMask) (s : State) : (noteCut m s).policy = s.policy := by
  unfold noteCut; split <;> (try split) <;> rfl
@[simp] theorem noteCut_cmd (m : ChannelMask) (s : State) : (noteCut m s).cmd = s.cmd := by
  unfold noteCut; split <;> (try split) <;> rfl
@[simp] theorem noteCut_status (m : ChannelMask) (s : State) : (noteCut m s).status = s.status := by
  unfold noteCut; split <;> (try split) <;> rfl
@[simp] theorem noteCut_counters (m : ChannelMask) (s : State) : (noteCut m s).counters = s.counters := by
  unfold noteCut; split <;> (try split) <;> rfl
@[simp] theorem noteCut_readData (m : ChannelMask) (s : State) : (noteCut m s).readData = s.readData := by
  unfold noteCut; split <;> (try split) <;> rfl
@[simp] theorem noteCut_freeCount (m : ChannelMask) (s : State) : (noteCut m s).freeCount = s.freeCount := by
  unfold noteCut; split <;> (try split) <;> rfl
@[simp] theorem noteCut_pending (m : ChannelMask) (s : State) : (noteCut m s).pending = s.pending := by
  unfold noteCut; split <;> (try split) <;> rfl

/-! ### noteFault -/
@[simp] theorem noteFault_inReset (m : ChannelMask) (s : State) : (noteFault m s).inReset = s.inReset := by
  unfold noteFault; split <;> (try split) <;> rfl
@[simp] theorem noteFault_timebase (m : ChannelMask) (s : State) : (noteFault m s).timebase = s.timebase := by
  unfold noteFault; split <;> (try split) <;> rfl
@[simp] theorem noteFault_triggers (m : ChannelMask) (s : State) : (noteFault m s).triggers = s.triggers := by
  unfold noteFault; split <;> (try split) <;> rfl
@[simp] theorem noteFault_channels (m : ChannelMask) (s : State) : (noteFault m s).channels = s.channels := by
  unfold noteFault; split <;> (try split) <;> rfl
@[simp] theorem noteFault_syncs (m : ChannelMask) (s : State) : (noteFault m s).syncs = s.syncs := by
  unfold noteFault; split <;> (try split) <;> rfl
@[simp] theorem noteFault_tables (m : ChannelMask) (s : State) : (noteFault m s).tables = s.tables := by
  unfold noteFault; split <;> (try split) <;> rfl
@[simp] theorem noteFault_port (m : ChannelMask) (s : State) : (noteFault m s).port = s.port := by
  unfold noteFault; split <;> (try split) <;> rfl
@[simp] theorem noteFault_records (m : ChannelMask) (s : State) : (noteFault m s).records = s.records := by
  unfold noteFault; split <;> (try split) <;> rfl
@[simp] theorem noteFault_store (m : ChannelMask) (s : State) : (noteFault m s).store = s.store := by
  unfold noteFault; split <;> (try split) <;> rfl
@[simp] theorem noteFault_policy (m : ChannelMask) (s : State) : (noteFault m s).policy = s.policy := by
  unfold noteFault; split <;> (try split) <;> rfl
@[simp] theorem noteFault_cmd (m : ChannelMask) (s : State) : (noteFault m s).cmd = s.cmd := by
  unfold noteFault; split <;> (try split) <;> rfl
@[simp] theorem noteFault_status (m : ChannelMask) (s : State) : (noteFault m s).status = s.status := by
  unfold noteFault; split <;> (try split) <;> rfl
@[simp] theorem noteFault_counters (m : ChannelMask) (s : State) : (noteFault m s).counters = s.counters := by
  unfold noteFault; split <;> (try split) <;> rfl
@[simp] theorem noteFault_readData (m : ChannelMask) (s : State) : (noteFault m s).readData = s.readData := by
  unfold noteFault; split <;> (try split) <;> rfl
@[simp] theorem noteFault_freeCount (m : ChannelMask) (s : State) : (noteFault m s).freeCount = s.freeCount := by
  unfold noteFault; split <;> (try split) <;> rfl
@[simp] theorem noteFault_pending (m : ChannelMask) (s : State) : (noteFault m s).pending = s.pending := by
  unfold noteFault; split <;> (try split) <;> rfl

/-! ### raiseShortage -/
@[simp] theorem raiseShortage_inReset (c : StepContext) (s : State) : (raiseShortage c s).inReset = s.inReset := by
  unfold raiseShortage; split <;> rfl
@[simp] theorem raiseShortage_timebase (c : StepContext) (s : State) : (raiseShortage c s).timebase = s.timebase := by
  unfold raiseShortage; split <;> rfl
@[simp] theorem raiseShortage_triggers (c : StepContext) (s : State) : (raiseShortage c s).triggers = s.triggers := by
  unfold raiseShortage; split <;> rfl
@[simp] theorem raiseShortage_channels (c : StepContext) (s : State) : (raiseShortage c s).channels = s.channels := by
  unfold raiseShortage; split <;> rfl
@[simp] theorem raiseShortage_syncs (c : StepContext) (s : State) : (raiseShortage c s).syncs = s.syncs := by
  unfold raiseShortage; split <;> rfl
@[simp] theorem raiseShortage_tables (c : StepContext) (s : State) : (raiseShortage c s).tables = s.tables := by
  unfold raiseShortage; split <;> rfl
@[simp] theorem raiseShortage_port (c : StepContext) (s : State) : (raiseShortage c s).port = s.port := by
  unfold raiseShortage; split <;> rfl
@[simp] theorem raiseShortage_records (c : StepContext) (s : State) : (raiseShortage c s).records = s.records := by
  unfold raiseShortage; split <;> rfl
@[simp] theorem raiseShortage_store (c : StepContext) (s : State) : (raiseShortage c s).store = s.store := by
  unfold raiseShortage; split <;> rfl
@[simp] theorem raiseShortage_policy (c : StepContext) (s : State) : (raiseShortage c s).policy = s.policy := by
  unfold raiseShortage; split <;> rfl
@[simp] theorem raiseShortage_cmd (c : StepContext) (s : State) : (raiseShortage c s).cmd = s.cmd := by
  unfold raiseShortage; split <;> rfl
@[simp] theorem raiseShortage_readData (c : StepContext) (s : State) : (raiseShortage c s).readData = s.readData := by
  unfold raiseShortage; split <;> rfl
@[simp] theorem raiseShortage_freeCount (c : StepContext) (s : State) :
    (raiseShortage c s).freeCount = s.freeCount := by
  unfold raiseShortage; split <;> rfl
@[simp] theorem raiseShortage_pending (c : StepContext) (s : State) : (raiseShortage c s).pending = s.pending := by
  unfold raiseShortage; split <;> rfl

/-! ### startExposure -/
@[simp] theorem startExposure_inReset (lit skipped : ChannelMask) (c : StepContext) (s : State) :
    (startExposure lit skipped c s).inReset = s.inReset := by simp [startExposure]
@[simp] theorem startExposure_timebase (lit skipped : ChannelMask) (c : StepContext) (s : State) :
    (startExposure lit skipped c s).timebase = s.timebase := by simp [startExposure]
@[simp] theorem startExposure_triggers (lit skipped : ChannelMask) (c : StepContext) (s : State) :
    (startExposure lit skipped c s).triggers = s.triggers := by simp [startExposure]
@[simp] theorem startExposure_tables (lit skipped : ChannelMask) (c : StepContext) (s : State) :
    (startExposure lit skipped c s).tables = s.tables := by simp [startExposure]
@[simp] theorem startExposure_port (lit skipped : ChannelMask) (c : StepContext) (s : State) :
    (startExposure lit skipped c s).port = s.port := by simp [startExposure]
@[simp] theorem startExposure_records (lit skipped : ChannelMask) (c : StepContext) (s : State) :
    (startExposure lit skipped c s).records = s.records := by simp [startExposure]
@[simp] theorem startExposure_store (lit skipped : ChannelMask) (c : StepContext) (s : State) :
    (startExposure lit skipped c s).store = s.store := by simp [startExposure]
@[simp] theorem startExposure_policy (lit skipped : ChannelMask) (c : StepContext) (s : State) :
    (startExposure lit skipped c s).policy = s.policy := by simp [startExposure]
@[simp] theorem startExposure_cmd (lit skipped : ChannelMask) (c : StepContext) (s : State) :
    (startExposure lit skipped c s).cmd = s.cmd := by simp [startExposure]
@[simp] theorem startExposure_status (lit skipped : ChannelMask) (c : StepContext) (s : State) :
    (startExposure lit skipped c s).status = s.status := by simp [startExposure]
@[simp] theorem startExposure_counters (lit skipped : ChannelMask) (c : StepContext) (s : State) :
    (startExposure lit skipped c s).counters = s.counters := by simp [startExposure]
@[simp] theorem startExposure_readData (lit skipped : ChannelMask) (c : StepContext) (s : State) :
    (startExposure lit skipped c s).readData = s.readData := by simp [startExposure]
@[simp] theorem startExposure_freeCount (lit skipped : ChannelMask) (c : StepContext) (s : State) :
    (startExposure lit skipped c s).freeCount = s.freeCount := by simp [startExposure]
@[simp] theorem startExposure_pending (lit skipped : ChannelMask) (c : StepContext) (s : State) :
    (startExposure lit skipped c s).pending = s.pending := by simp [startExposure]

/-! ### endOperation -/
@[simp] theorem endOperation_inReset (o : StoreOutcome) (s : State) : (endOperation o s).inReset = s.inReset := by
  unfold endOperation; split <;> rfl
@[simp] theorem endOperation_timebase (o : StoreOutcome) (s : State) : (endOperation o s).timebase = s.timebase := by
  unfold endOperation; split <;> rfl
@[simp] theorem endOperation_triggers (o : StoreOutcome) (s : State) : (endOperation o s).triggers = s.triggers := by
  unfold endOperation; split <;> rfl
@[simp] theorem endOperation_channels (o : StoreOutcome) (s : State) : (endOperation o s).channels = s.channels := by
  unfold endOperation; split <;> rfl
@[simp] theorem endOperation_syncs (o : StoreOutcome) (s : State) : (endOperation o s).syncs = s.syncs := by
  unfold endOperation; split <;> rfl
@[simp] theorem endOperation_seq (o : StoreOutcome) (s : State) : (endOperation o s).seq = s.seq := by
  unfold endOperation; split <;> rfl
@[simp] theorem endOperation_tables (o : StoreOutcome) (s : State) : (endOperation o s).tables = s.tables := by
  unfold endOperation; split <;> rfl
@[simp] theorem endOperation_port (o : StoreOutcome) (s : State) : (endOperation o s).port = s.port := by
  unfold endOperation; split <;> rfl
@[simp] theorem endOperation_records (o : StoreOutcome) (s : State) : (endOperation o s).records = s.records := by
  unfold endOperation; split <;> rfl
@[simp] theorem endOperation_policy (o : StoreOutcome) (s : State) : (endOperation o s).policy = s.policy := by
  unfold endOperation; split <;> rfl
@[simp] theorem endOperation_cmd (o : StoreOutcome) (s : State) : (endOperation o s).cmd = s.cmd := by
  unfold endOperation; split <;> rfl
@[simp] theorem endOperation_counters (o : StoreOutcome) (s : State) : (endOperation o s).counters = s.counters := by
  unfold endOperation; split <;> rfl
@[simp] theorem endOperation_readData (o : StoreOutcome) (s : State) : (endOperation o s).readData = s.readData := by
  unfold endOperation; split <;> rfl
@[simp] theorem endOperation_freeCount (o : StoreOutcome) (s : State) : (endOperation o s).freeCount = s.freeCount := by
  unfold endOperation; split <;> rfl
@[simp] theorem endOperation_pending (o : StoreOutcome) (s : State) : (endOperation o s).pending = s.pending := by
  unfold endOperation; split <;> rfl

/-! ### endWithSlot -/
@[simp] theorem endWithSlot_inReset (slot : Fin 6) (st : SlotState) (o : StoreOutcome) (s : State) :
    (endWithSlot slot st o s).inReset = s.inReset := by simp [endWithSlot]
@[simp] theorem endWithSlot_timebase (slot : Fin 6) (st : SlotState) (o : StoreOutcome) (s : State) :
    (endWithSlot slot st o s).timebase = s.timebase := by simp [endWithSlot]
@[simp] theorem endWithSlot_triggers (slot : Fin 6) (st : SlotState) (o : StoreOutcome) (s : State) :
    (endWithSlot slot st o s).triggers = s.triggers := by simp [endWithSlot]
@[simp] theorem endWithSlot_channels (slot : Fin 6) (st : SlotState) (o : StoreOutcome) (s : State) :
    (endWithSlot slot st o s).channels = s.channels := by simp [endWithSlot]
@[simp] theorem endWithSlot_syncs (slot : Fin 6) (st : SlotState) (o : StoreOutcome) (s : State) :
    (endWithSlot slot st o s).syncs = s.syncs := by simp [endWithSlot]
@[simp] theorem endWithSlot_seq (slot : Fin 6) (st : SlotState) (o : StoreOutcome) (s : State) :
    (endWithSlot slot st o s).seq = s.seq := by simp [endWithSlot]
@[simp] theorem endWithSlot_tables (slot : Fin 6) (st : SlotState) (o : StoreOutcome) (s : State) :
    (endWithSlot slot st o s).tables = s.tables := by simp [endWithSlot]
@[simp] theorem endWithSlot_port (slot : Fin 6) (st : SlotState) (o : StoreOutcome) (s : State) :
    (endWithSlot slot st o s).port = s.port := by simp [endWithSlot]
@[simp] theorem endWithSlot_records (slot : Fin 6) (st : SlotState) (o : StoreOutcome) (s : State) :
    (endWithSlot slot st o s).records = s.records := by simp [endWithSlot]
@[simp] theorem endWithSlot_policy (slot : Fin 6) (st : SlotState) (o : StoreOutcome) (s : State) :
    (endWithSlot slot st o s).policy = s.policy := by simp [endWithSlot]
@[simp] theorem endWithSlot_cmd (slot : Fin 6) (st : SlotState) (o : StoreOutcome) (s : State) :
    (endWithSlot slot st o s).cmd = s.cmd := by simp [endWithSlot]
@[simp] theorem endWithSlot_counters (slot : Fin 6) (st : SlotState) (o : StoreOutcome) (s : State) :
    (endWithSlot slot st o s).counters = s.counters := by simp [endWithSlot]
@[simp] theorem endWithSlot_readData (slot : Fin 6) (st : SlotState) (o : StoreOutcome) (s : State) :
    (endWithSlot slot st o s).readData = s.readData := by simp [endWithSlot]
@[simp] theorem endWithSlot_freeCount (slot : Fin 6) (st : SlotState) (o : StoreOutcome) (s : State) :
    (endWithSlot slot st o s).freeCount = s.freeCount := by simp [endWithSlot]
@[simp] theorem endWithSlot_pending (slot : Fin 6) (st : SlotState) (o : StoreOutcome) (s : State) :
    (endWithSlot slot st o s).pending = s.pending := by simp [endWithSlot]

/-! ### closeEffects -/
@[simp] theorem closeEffects_inReset (s : State) : (closeEffects s).inReset = s.inReset := by
  unfold closeEffects; split <;> (try split) <;> rfl
@[simp] theorem closeEffects_timebase (s : State) : (closeEffects s).timebase = s.timebase := by
  unfold closeEffects; split <;> (try split) <;> rfl
@[simp] theorem closeEffects_triggers (s : State) : (closeEffects s).triggers = s.triggers := by
  unfold closeEffects; split <;> (try split) <;> rfl
@[simp] theorem closeEffects_channels (s : State) : (closeEffects s).channels = s.channels := by
  unfold closeEffects; split <;> (try split) <;> rfl
@[simp] theorem closeEffects_syncs (s : State) : (closeEffects s).syncs = s.syncs := by
  unfold closeEffects; split <;> (try split) <;> rfl
@[simp] theorem closeEffects_seq (s : State) : (closeEffects s).seq = s.seq := by
  unfold closeEffects; split <;> (try split) <;> rfl
@[simp] theorem closeEffects_records (s : State) : (closeEffects s).records = s.records := by
  unfold closeEffects; split <;> (try split) <;> rfl
@[simp] theorem closeEffects_store (s : State) : (closeEffects s).store = s.store := by
  unfold closeEffects; split <;> (try split) <;> rfl
@[simp] theorem closeEffects_policy (s : State) : (closeEffects s).policy = s.policy := by
  unfold closeEffects; split <;> (try split) <;> rfl
@[simp] theorem closeEffects_cmd (s : State) : (closeEffects s).cmd = s.cmd := by
  unfold closeEffects; split <;> (try split) <;> rfl
@[simp] theorem closeEffects_counters (s : State) : (closeEffects s).counters = s.counters := by
  unfold closeEffects; split <;> (try split) <;> rfl
@[simp] theorem closeEffects_readData (s : State) : (closeEffects s).readData = s.readData := by
  unfold closeEffects; split <;> (try split) <;> rfl
@[simp] theorem closeEffects_freeCount (s : State) : (closeEffects s).freeCount = s.freeCount := by
  unfold closeEffects; split <;> (try split) <;> rfl
@[simp] theorem closeEffects_pending (s : State) : (closeEffects s).pending = s.pending := by
  unfold closeEffects; split <;> (try split) <;> rfl

/-! ### closeSession -/
@[simp] theorem closeSession_inReset (s : State) : (closeSession s).inReset = s.inReset := by simp [closeSession]
@[simp] theorem closeSession_timebase (s : State) : (closeSession s).timebase = s.timebase := by simp [closeSession]
@[simp] theorem closeSession_triggers (s : State) : (closeSession s).triggers = s.triggers := by simp [closeSession]
@[simp] theorem closeSession_channels (s : State) : (closeSession s).channels = s.channels := by simp [closeSession]
@[simp] theorem closeSession_syncs (s : State) : (closeSession s).syncs = s.syncs := by simp [closeSession]
@[simp] theorem closeSession_seq (s : State) : (closeSession s).seq = s.seq := by simp [closeSession]
@[simp] theorem closeSession_records (s : State) : (closeSession s).records = s.records := by simp [closeSession]
@[simp] theorem closeSession_store (s : State) : (closeSession s).store = s.store := by simp [closeSession]
@[simp] theorem closeSession_policy (s : State) : (closeSession s).policy = s.policy := by simp [closeSession]
@[simp] theorem closeSession_cmd (s : State) : (closeSession s).cmd = s.cmd := by simp [closeSession]
@[simp] theorem closeSession_counters (s : State) : (closeSession s).counters = s.counters := by simp [closeSession]
@[simp] theorem closeSession_readData (s : State) : (closeSession s).readData = s.readData := by simp [closeSession]
@[simp] theorem closeSession_freeCount (s : State) : (closeSession s).freeCount = s.freeCount := by simp [closeSession]
@[simp] theorem closeSession_pending (s : State) : (closeSession s).pending = s.pending := by simp [closeSession]

end Sys2Proof.Machine
end

