-- ==== Sys2Proof/Laws/StepLife.lean ====
section
/-! SUPPORT. What the operations of a step's life can do: the gap, the last gate close, the credit check, and the beginning,
entry and serving of a step. -/
namespace Sys2Proof.Machine

/-! ### The gap and the last gate close -/

/-- Everything that the test for the gap's start can do. -/
theorem startGap_cases (s : State) :
    startGap s = s ∨
    ∃ c, s.seq.context = some c ∧ s.seq.state = .settling ∧ c.gapStart = none ∧ stepPulses s = false ∧
      startGap s = setContext { c with gapStart := some s.timebase.tsc } s := by
  unfold startGap
  split
  · split
    · rename_i c hc h
      exact .inr ⟨c, hc, h.1, h.2.1, h.2.2, rfl⟩
    · exact .inl rfl
  · exact .inl rfl

/-- Everything that follows the closing of a gate: nothing, or SETTLING after the last one. -/
theorem afterGateClose_cases (s : State) :
    afterGateClose s = s ∨
    ∃ c, s.seq.context = some c ∧ s.seq.state = .exposing ∧ openGates s = 0 ∧
      afterGateClose s = startGap (setContext { c with lastGateClose := some s.timebase.tsc }
        { s with seq := { s.seq with state := .settling } }) := by
  unfold afterGateClose
  split
  · split
    · rename_i c hc h
      exact .inr ⟨c, hc, h.1, h.2, rfl⟩
    · exact .inl rfl
  · exact .inl rfl

/-- The gap's start changes the Sequencer's context and nothing else. -/
theorem startGap_frame (s : State) :
    startGap s = { s with seq := { s.seq with context := (startGap s).seq.context } } := by
  rcases startGap_cases s with h | ⟨c, hc, _, _, _, h⟩
  · rw [h]
  · rw [h]
    rfl

/-- What follows the closing of a gate is in the Sequencer's state and context alone. -/
theorem afterGateClose_frame (s : State) :
    afterGateClose s = { s with seq := { s.seq with
      state := (afterGateClose s).seq.state, context := (afterGateClose s).seq.context } } := by
  rcases afterGateClose_cases s with h | ⟨c, hc, _, _, h⟩
  · rw [h]
  · rw [h, startGap_frame]
    rfl

/-- The exposure instant, when it is reached, is the credit check. -/
theorem tryExposure_cases (s : State) :
    tryExposure s = s ∨
    ∃ c, s.seq.context = some c ∧ s.seq.state = .delaying ∧ c.dueReached = true ∧ manualPulses s = false ∧
      tryExposure s = afterCheck c s := by
  unfold tryExposure
  split
  · split
    · rename_i c hc h
      exact .inr ⟨c, hc, h.1, h.2.1, h.2.2, rfl⟩
    · exact .inl rfl
  · exact .inl rfl

/-- The re-check of a step held for credit. -/
theorem recheck_cases (s : State) :
    recheck s = s ∨
    ∃ c, s.seq.context = some c ∧ s.seq.state = .held ∧ s.seq.hold = .credit ∧ recheck s = afterCheck c s := by
  unfold recheck
  split
  · split
    · rename_i c hc h
      exact .inr ⟨c, hc, h.1, h.2, rfl⟩
    · exact .inl rfl
  · exact .inl rfl

/-- Everything that follows a credit check. -/
theorem afterCheck_cases (c : StepContext) (s : State) :
    (∃ lit skipped, creditCheck s c = .start lit skipped ∧
      afterCheck c s = startExposure lit skipped (checkedContext c s) (raiseShortage c s)) ∨
    (∃ skipped, creditCheck s c = .hold skipped ∧ s.seq.state = .held ∧
      afterCheck c s = setContext { checkedContext c s with skipped := skipped } (raiseShortage c s)) ∨
    (∃ skipped, creditCheck s c = .hold skipped ∧ s.seq.state ≠ .held ∧
      afterCheck c s = enterHeld .credit (setContext { checkedContext c s with skipped := skipped } (raiseShortage c s))) ∨
    (creditCheck s c = .abort ∧ afterCheck c s = stopSequencer .creditAbort (raiseShortage c s)) := by
  unfold afterCheck
  split
  · rename_i lit skipped h
    exact .inl ⟨lit, skipped, h, rfl⟩
  · rename_i skipped h
    by_cases hs : s.seq.state = .held
    · exact .inr (.inl ⟨skipped, h, hs, if_pos hs⟩)
    · exact .inr (.inr (.inl ⟨skipped, h, hs, if_neg hs⟩))
  · rename_i h
    exact .inr (.inr (.inr ⟨h, rfl⟩))

/-! ### The beginning of a step -/

/-- The serve of a queue with no entry from the mask leaves everything as it is. -/
theorem serve_none {mask : SourceMask} {c : StepContext} {s : State}
    (h : ∀ a ∈ s.triggers.queue, accepts mask a.source = false) : serve mask c s = s := by
  have hd : s.triggers.queue.dropWhile (fun a => !accepts mask a.source) = [] := by
    rw [List.dropWhile_eq_nil_iff]
    intro a ha
    simp [h a ha]
  simp [serve, hd]

/-- Entry into WAITING by mode and advance. -/
theorem enterWaiting_cases (c : StepContext) (s : State) :
    (s.seq.mode = .manual ∧
      enterWaiting c s = { s with seq := { s.seq with state := .waiting, hold := .none, holdTimer := none } }) ∨
    (s.seq.mode ≠ .manual ∧ c.record.advance = .immediate ∧
      enterWaiting c s = beginStep none false s.timebase.tsc c
        { s with seq := { s.seq with state := .waiting, hold := .none, holdTimer := none } }) ∨
    (∃ mask, s.seq.mode ≠ .manual ∧ c.record.advance = .trigger mask ∧
      enterWaiting c s = serve mask c
        { s with seq := { s.seq with state := .waiting, hold := .none, holdTimer := none } }) := by
  unfold enterWaiting
  by_cases hm : s.seq.mode = .manual
  · exact .inl ⟨hm, by simp [hm]⟩
  · cases ha : c.record.advance with
    | immediate => exact .inr (.inl ⟨hm, rfl, by simp [hm]⟩)
    | trigger mask => exact .inr (.inr ⟨mask, hm, rfl, by simp [hm]⟩)

/-- Everything that an entry can do. -/
theorem makeEntry_cases (s : State) :
    (atCursor s = none ∧ makeEntry s = s) ∨
    ∃ e r, atCursor s = some (e, r) ∧
      ((s.policy.recordPolicy = .hold ∧ placesTaken s < 32 ∧
          makeEntry s = enterWaiting (freshContext s e r) { setContext (freshContext s e r) s with
            records := { s.records with reserved := true } }) ∨
        (s.policy.recordPolicy = .hold ∧ 32 ≤ placesTaken s ∧
          makeEntry s = enterHeld .recordSpace { setContext (freshContext s e r) s with
            records := { s.records with waitingRequest := true } }) ∨
        (s.policy.recordPolicy = .drop ∧
          makeEntry s = enterWaiting (freshContext s e r) (setContext (freshContext s e r) s))) := by
  unfold makeEntry
  rcases hc : atCursor s with _ | ⟨e, r⟩
  · exact .inl ⟨rfl, rfl⟩
  · refine .inr ⟨e, r, rfl, ?_⟩
    cases hp : s.policy.recordPolicy with
    | hold =>
      by_cases h : placesTaken s < 32
      · exact .inl ⟨rfl, h, by simp [h]⟩
      · exact .inr (.inl ⟨rfl, by omega, by simp [h]⟩)
    | drop => exact .inr (.inr ⟨rfl, rfl⟩)

/-- Everything that an arrival can do. -/
theorem arrive_cases (source : Source) (s : State) :
    (isEarly source s = true ∧ arrive source s = countUp earlyCounter 1 s) ∨
    (isEarly source s = false ∧ s.triggers.queue.length < 8 ∧
      arrive source s = serveWaiting { s with triggers :=
        { s.triggers with queue := s.triggers.queue ++ [{ source := source, time := s.timebase.tsc }] } }) ∨
    (isEarly source s = false ∧ 8 ≤ s.triggers.queue.length ∧
      arrive source s = raise trigOverrunFlag (countUp overrunCounter 1 s)) := by
  unfold arrive
  by_cases he : isEarly source s = true
  · exact .inl ⟨he, by simp [he]⟩
  · by_cases hq : s.triggers.queue.length < 8
    · exact .inr (.inl ⟨by simpa using he, hq, by simp [he, hq]⟩)
    · exact .inr (.inr ⟨by simpa using he, by omega, by simp [he, hq]⟩)

end Sys2Proof.Machine
end

