-- ==== Sys2Proof/Laws/Stops.lean ====
section
/-! SUPPORT. What an emission, a pending commit and a stop do, and which runs take no time, in the words of Safety.lean. -/
namespace Sys2Proof.Machine

/-! ### Emission -/

/-- A channel is in a set exactly when its test holds. -/
@[simp] theorem inMask_maskOf (p : Fin 8 → Bool) (i : Fin 8) : inMask (maskOf p) i = p i := by
  fin_cases i <;> simp [inMask, maskOf, BitVec.ofBoolListLE]

/-- The record of a step has the fields of its step. -/
theorem shotRecord_isRecordOf (o : ShotOutcome) (c : StepContext) (s : State) : isRecordOf (shotRecord o c s) o c s := by
  have h : ∀ i : Fin 8, inMask (listedChannels c.record) i = true ↔ ∃ e ∈ c.record.channels, e.channel = i := by
    intro i
    unfold listedChannels
    rw [inMask_maskOf]
    simp
  refine ⟨rfl, rfl, rfl, rfl, rfl, rfl, rfl, rfl, rfl, rfl, rfl, ?_, ?_⟩
  · intro start hs
    simp [shotRecord, hs]
  · intro hn
    simpa [shotRecord, hn] using h

/-- A record handed over changes the records, the counters and the flags, and nothing else. -/
theorem recorded_frame (r : ShotRecord) (s : State) :
    recorded r s = { s with
      records := { s.records with queue := (recorded r s).records.queue, reserved := (recorded r s).records.reserved }
      counters := { s.counters with value := (recorded r s).counters.value }
      status := { s.status with flags := (recorded r s).status.flags } } := by
  unfold recorded
  split
  · rfl
  · split <;> rfl

/-- Everything that an emission does: the record is handed over and the sequence number taken. -/
theorem emit_eq (o : ShotOutcome) (c : StepContext) (s : State) :
    emit o c s = { recorded (shotRecord o c s) s with seq := { s.seq with sequence := s.seq.sequence + 1 } } := by
  unfold emit recorded
  cases s.policy.recordPolicy
  · simp
  · by_cases h : s.records.queue.length < 32 <;> simp [h, raise, countUp, satAdd, recordLostCounter]

/-! ### The transition to STOPPED -/

/-- Everything that step 5 of R46 does. -/
theorem swapIfPending_eq (s : State) : swapIfPending s = commitMade s := by
  unfold swapIfPending commitMade swapBanks endReadSession sessionEnded portError endSession raise
  by_cases h : s.tables.commitPending = true <;> by_cases hr : s.port.kind = .read <;> simp [h, hr]

/-- Everything that steps 1 and 2 of R46 do. -/
theorem accountForStep_accounts (o : ShotOutcome) (s : State) : accountsForStep o s (accountForStep o s) := by
  refine ⟨fun h => by simp [accountForStep, h], ?_⟩
  intro c hc
  refine ⟨fun hb => by simp [accountForStep, hc, hb, releasePlace], fun hb => ⟨_, shotRecord_isRecordOf _ _ _, ?_⟩⟩
  have h : accountForStep o s =
      emit o { c with cut := c.cut ||| openGates s, syncCut := c.syncCut || stepPulses s } s := by
    unfold accountForStep
    rw [hc]
    exact if_pos hb
  rw [h]
  exact emit_eq _ _ _

/-- Everything that a stop does: it accounts for the step in progress, and then enters STOPPED with its reason. -/
theorem stopSequencer_stops (why : StopReason) (s : State) :
    ∃ u, accountsForStep (if why = .creditAbort then .aborted else .stopped) s u ∧
      stopsFor why u (stopSequencer why s) := by
  refine ⟨_, accountForStep_accounts _ s, ?_⟩
  unfold stopSequencer
  rw [swapIfPending_eq]
  generalize accountForStep (if why = .creditAbort then .aborted else .stopped) s = u
  unfold commitMade enterStopped raise clearStep flushTriggers cutPulses closeGates
  by_cases h : u.tables.commitPending = true <;> simp [h, stopsFor, commitMade]

/-! ### Runs that take no time -/

/-- The channel entries that the credit check skips. -/
theorem entryDropsOut_iff (s : State) (e : ChannelEntry) : entryDropsOut s e = true ↔
    ((s.channels.channel[e.channel]).locked = true ∨ (s.channels.channel[e.channel]).enabled = false ∨
      (s.channels.channel[e.channel]).ceiling.toNat < entryCost s e ∨
      (s.policy.guardPolicy = .skip ∧ (s.channels.channel[e.channel]).credit.toNat < entryCost s e)) := by
  have h0 : inMask 0 e.channel = false := by simp [inMask]
  unfold entryDropsOut classify
  simp only [h0]
  generalize (s.channels.channel[e.channel]) = ch
  cases ch.locked <;> cases ch.enabled <;> by_cases h1 : ch.ceiling.toNat < entryCost s e <;>
    by_cases h2 : ch.credit.toNat < entryCost s e <;> simp [h1, h2]

/-- The steps that play in no time are those whose words say so. -/
theorem playsInNoTime_iff (s : State) (r : StepRecord) : playsInNoTime s r = true ↔ stepInNoTime s r := by
  simp only [playsInNoTime, stepInNoTime, Bool.and_eq_true, decide_eq_true_eq, List.all_eq_true, entryDropsOut_iff,
    List.isEmpty_iff, and_assoc]

/-- The runs whose next gap's end may wait for a microsecond are those without end that take no time (log 15). -/
theorem runsInNoTime_iff (s : State) : runsInNoTime s = true ↔ endlessInNoTime s := by
  have hp : manualPulses s = false ↔ ∀ i : Fin 4, (s.syncs[i]).pulse.isManual = false := by
    unfold manualPulses
    rw [List.any_eq_false]
    constructor
    · intro h i
      simpa using h s.syncs[i] (by simp)
    · intro h o ho
      obtain ⟨k, hk, rfl⟩ := List.getElem_of_mem ho
      have hk' : k < 4 := by simpa using hk
      simpa using h ⟨k, hk'⟩
  have he : ∀ e : OrderEntry, entryInNoTime s e = true ↔
      e.haltAfter = false ∧ ∃ r, (activeBank s).steps[e.step] = some r ∧ stepInNoTime s r := by
    intro e
    unfold entryInNoTime Bank.recordOf
    cases h : (activeBank s).steps[e.step] with
    | none => simp
    | some r => simp [playsInNoTime_iff]
  simp only [runsInNoTime, endlessInNoTime, Bool.and_eq_true, decide_eq_true_eq, List.all_eq_true, he, Bool.not_eq_true',
    hp, and_assoc]

end Sys2Proof.Machine
end

