-- ==== Sys2Proof/Laws/Exposure.lean ====
section
/-! SUPPORT. What the credit check, an exposure start and the entry of a step do, in the words of Safety.lean. -/
namespace Sys2Proof.Machine

/-! ### The credit check -/

/-- The satisfied entries are those that Safety.lean says are. -/
theorem classify_satisfied (s : State) (c : StepContext) (e : ChannelEntry) :
    classify s c.skipped e = .satisfied ↔ satisfiedEntry s c e := by
  unfold classify satisfiedEntry
  simp only [← Nat.not_lt]
  obtain ⟨en, lk, gt, tr, ce, ra, cr, fl⟩ := s.channels.channel[e.channel]
  cases inMask c.skipped e.channel <;> cases lk <;> cases en <;>
    by_cases h1 : ce.toNat < entryCost s e <;> by_cases h2 : cr.toNat < entryCost s e <;>
    simp [h1, h2]

/-- The entries that a check skips under every guard policy. -/
theorem classify_skipped (s : State) (c : StepContext) (e : ChannelEntry) :
    (classify s c.skipped e = .skipped ∨ classify s c.skipped e = .unsatisfiable) ↔ skippedEntry s c e := by
  unfold classify skippedEntry
  obtain ⟨en, lk, gt, tr, ce, ra, cr, fl⟩ := s.channels.channel[e.channel]
  cases inMask c.skipped e.channel <;> cases lk <;> cases en <;>
    by_cases h1 : ce.toNat < entryCost s e <;> by_cases h2 : cr.toNat < entryCost s e <;>
    simp [h1, h2]

/-- The short entries are all others. -/
theorem classify_short (s : State) (c : StepContext) (e : ChannelEntry) :
    classify s c.skipped e = .short ↔ ¬skippedEntry s c e ∧ ¬satisfiedEntry s c e := by
  rw [← classify_satisfied, ← classify_skipped]
  cases classify s c.skipped e <;> simp

/-- A check raises CREDIT_SHORT when it finds a short or an unsatisfiable entry. -/
theorem findsShortage_iff (s : State) (c : StepContext) :
    (findsClass s c .short || findsClass s c .unsatisfiable) = true ↔ findsShortage s c := by
  have key : ∀ e : ChannelEntry, (classify s c.skipped e = .short ∨ classify s c.skipped e = .unsatisfiable) ↔
      (inMask c.skipped e.channel = false ∧ (s.channels.channel[e.channel]).locked = false ∧
        (s.channels.channel[e.channel]).enabled = true ∧
        ((s.channels.channel[e.channel]).ceiling.toNat < entryCost s e ∨
          (s.channels.channel[e.channel]).credit.toNat < entryCost s e)) := by
    intro e
    unfold classify
    obtain ⟨en, lk, gt, tr, ce, ra, cr, fl⟩ := s.channels.channel[e.channel]
    cases inMask c.skipped e.channel <;> cases lk <;> cases en <;>
      by_cases h1 : ce.toNat < entryCost s e <;> by_cases h2 : cr.toNat < entryCost s e <;>
      simp [h1, h2]
  simp only [findsClass, Bool.or_eq_true, List.any_eq_true, decide_eq_true_eq, findsShortage, ← key]
  constructor
  · rintro (⟨e, he, h⟩ | ⟨e, he, h⟩)
    · exact ⟨e, he, .inl h⟩
    · exact ⟨e, he, .inr h⟩
  · rintro ⟨e, he, h | h⟩
    · exact .inl ⟨e, he, h⟩
    · exact .inr ⟨e, he, h⟩

/-- The channels of a class are those of its entries. -/
theorem inMask_classMask (s : State) (c : StepContext) (k : EntryClass) (i : Fin 8) :
    inMask (classMask s c k) i = true ↔ ∃ e ∈ c.record.channels, e.channel = i ∧ classify s c.skipped e = k := by
  simp [classMask]

/-- A channel is in a union when it is in either set. -/
theorem inMask_or (m n : ChannelMask) (i : Fin 8) : inMask (m ||| n) i = (inMask m i || inMask n i) := by
  simp [inMask]

/-- The channels that a check skips under every guard policy. -/
theorem classMask_skips (s : State) (c : StepContext) (i : Fin 8) :
    inMask (classMask s c .skipped ||| classMask s c .unsatisfiable) i = true ↔
      ∃ e ∈ c.record.channels, e.channel = i ∧ skippedEntry s c e := by
  simp only [inMask_or, Bool.or_eq_true, inMask_classMask, ← classify_skipped]
  constructor
  · rintro (⟨e, he, h, h'⟩ | ⟨e, he, h, h'⟩)
    · exact ⟨e, he, h, .inl h'⟩
    · exact ⟨e, he, h, .inr h'⟩
  · rintro ⟨e, he, h, h' | h'⟩
    · exact .inl ⟨e, he, h, h'⟩
    · exact .inr ⟨e, he, h, h'⟩

/-- Each channel at most once. -/
theorem entry_unique {es : List ChannelEntry} (h : (es.map (·.channel)).Nodup) {e f : ChannelEntry} (he : e ∈ es)
    (hf : f ∈ es) (hc : e.channel = f.channel) : e = f := List.inj_on_of_nodup_map h he hf hc

/-- Everything that the answer Start hands over: the satisfied channels lit, every other one of the list skipped. -/
theorem creditCheck_start (s : State) (c : StepContext) (hw : c.record.wf = true)
    (h : s.policy.guardPolicy = .skip ∨ ∀ e ∈ c.record.channels, skippedEntry s c e ∨ satisfiedEntry s c e) :
    ∃ lit skipped, creditCheck s c = .start lit skipped ∧
      (∀ i : Fin 8, inMask lit i = true ↔ ∃ e ∈ c.record.channels, e.channel = i ∧ satisfiedEntry s c e) ∧
      (∀ i : Fin 8, inMask skipped i = true ↔ inMask lit i = false ∧ ∃ e ∈ c.record.channels, e.channel = i) := by
  have hn : (c.record.channels.map (·.channel)).Nodup := by
    simp only [StepRecord.wf, Bool.and_eq_true, decide_eq_true_eq] at hw
    exact hw.1.2
  have hlit : ∀ i : Fin 8, inMask (classMask s c .satisfied) i = true ↔
      ∃ e ∈ c.record.channels, e.channel = i ∧ satisfiedEntry s c e := by
    intro i
    simp only [inMask_classMask, classify_satisfied]
  have hns : ∀ e ∈ c.record.channels, inMask (classMask s c .satisfied) e.channel = false ↔ ¬satisfiedEntry s c e := by
    intro e he
    rw [← Bool.not_eq_true, hlit, not_iff_not]
    constructor
    · rintro ⟨f, hf, hc, h⟩
      rwa [entry_unique hn he hf hc.symm]
    · intro h
      exact ⟨e, he, rfl, h⟩
  have hdis : ∀ e, skippedEntry s c e → ¬satisfiedEntry s c e := by
    rintro e h1 ⟨h2, h3, h4, h5, _⟩
    rcases h1 with h1 | h1 | h1 | h1
    · simp [h2] at h1
    · exact absurd (h3.symm.trans h1) (by decide)
    · exact absurd (h4.symm.trans h1) (by decide)
    · omega
  by_cases hs : findsClass s c .short = true
  · have hg : s.policy.guardPolicy = .skip := by
      rcases h with h | h
      · exact h
      · simp only [findsClass, List.any_eq_true, decide_eq_true_eq, classify_short] at hs
        obtain ⟨e, he, h1, h2⟩ := hs
        exact absurd (h e he) (by simp [h1, h2])
    refine ⟨_, _, by simp only [creditCheck, hs, hg, if_true]; rfl, hlit, ?_⟩
    intro i
    rw [inMask_or, Bool.or_eq_true, classMask_skips, inMask_classMask]
    simp only [classify_short]
    constructor
    · rintro (⟨e, he, rfl, h'⟩ | ⟨e, he, rfl, h'⟩)
      · exact ⟨(hns e he).2 (hdis e h'), e, he, rfl⟩
      · exact ⟨(hns e he).2 h'.2, e, he, rfl⟩
    · rintro ⟨h1, e, he, rfl⟩
      by_cases h2 : skippedEntry s c e
      · exact .inl ⟨e, he, rfl, h2⟩
      · exact .inr ⟨e, he, rfl, h2, (hns e he).1 h1⟩
  · refine ⟨_, _, by simp only [creditCheck]; rw [if_neg hs], hlit, ?_⟩
    intro i
    rw [classMask_skips]
    constructor
    · rintro ⟨e, he, rfl, h'⟩
      exact ⟨(hns e he).2 (hdis e h'), e, he, rfl⟩
    · rintro ⟨h1, e, he, rfl⟩
      refine ⟨e, he, rfl, ?_⟩
      by_contra h2
      apply hs
      simp only [findsClass, List.any_eq_true, decide_eq_true_eq, classify_short]
      exact ⟨e, he, h2, (hns e he).1 h1⟩

/-! ### The exposure start -/

/-- The entry that names a channel is found by its channel. -/
theorem entryFor_mem {es : List ChannelEntry} (h : (es.map (·.channel)).Nodup) {e : ChannelEntry} (he : e ∈ es) :
    entryFor es e.channel = some e := by
  unfold entryFor
  cases hf : es.find? fun f => decide (f.channel = e.channel) with
  | none => simpa using List.find?_eq_none.1 hf e he
  | some f =>
    have h1 := List.find?_some hf
    have h2 := List.mem_of_find?_eq_some hf
    rw [entry_unique h h2 he (by simpa using h1)]

/-- A sync entry places its pulse on its output. -/
theorem placeOn_mem {es : List SyncEntry} (h : (es.map (·.output)).Nodup) {e : SyncEntry} (he : e ∈ es) (now : Time)
    (o : SyncOutput) : placeOn now es e.output o = { o with pulse := placedPulse now e } := by
  unfold placeOn
  cases hf : es.find? fun f => decide (f.output = e.output) with
  | none => simpa using List.find?_eq_none.1 hf e he
  | some f =>
    have h1 := List.find?_some hf
    have h2 := List.mem_of_find?_eq_some hf
    rw [List.inj_on_of_nodup_map h h2 he (by simpa using h1)]

/-- An output that no sync entry names stays as it is. -/
theorem placeOn_not_mem {es : List SyncEntry} {i : Fin 4} (h : ∀ e ∈ es, e.output ≠ i) (now : Time) (o : SyncOutput) :
    placeOn now es i o = o := by
  unfold placeOn
  have hf : es.find? (fun f => decide (f.output = i)) = none := by
    rw [List.find?_eq_none]
    simpa using h
  rw [hf]

/-- A step pulse runs when some output carries one. -/
theorem stepPulses_iff (s : State) : stepPulses s = true ↔ ∃ i : Fin 4, (s.syncs[i]).pulse.isStep = true := by
  unfold stepPulses
  rw [List.any_eq_true]
  constructor
  · rintro ⟨o, ho, h⟩
    obtain ⟨k, hk, rfl⟩ := List.getElem_of_mem ho
    have hk' : k < 4 := by simpa using hk
    exact ⟨⟨k, hk'⟩, by simpa using h⟩
  · rintro ⟨i, h⟩
    exact ⟨s.syncs[i], by simp, h⟩

/-- With no step pulse before, the pulses placed are none only when there is no sync entry. -/
theorem placePulses_stepPulses (es : List SyncEntry) (s : State) (h : stepPulses s = false) :
    stepPulses (placePulses es s) = false ↔ es = [] := by
  rw [← Bool.not_eq_true, stepPulses_iff]
  constructor
  · intro hn
    cases es with
    | nil => rfl
    | cons e es =>
      refine absurd ⟨e.output, ?_⟩ hn
      simp only [placePulses, placeOn, Fin.getElem_fin, Vector.getElem_ofFn, Fin.eta]
      simp only [List.find?_cons, decide_true, placedPulse]
      split <;> rfl
  · rintro rfl
    have : (placePulses [] s) = { s with syncs := (placePulses [] s).syncs } := rfl
    rintro ⟨i, hi⟩
    rw [← Bool.not_eq_true, stepPulses_iff] at h
    exact h ⟨i, by simpa [placePulses, placeOn] using hi⟩

/-- Everything that a check does which finds no reason to hold or to abort: the exposure starts. -/
theorem afterCheck_exposureStarts (s : State) (c : StepContext) (hw : c.record.wf = true) (hp : stepPulses s = false)
    (h : s.policy.guardPolicy = .skip ∨ ∀ e ∈ c.record.channels, skippedEntry s c e ∨ satisfiedEntry s c e) :
    ∃ d, exposureStarts c d s (afterCheck c s) := by
  obtain ⟨lit, skipped, hk, hlit, hskip⟩ := creditCheck_start s c hw h
  have hn : (c.record.channels.map (·.channel)).Nodup := by
    simp only [StepRecord.wf, Bool.and_eq_true, decide_eq_true_eq] at hw
    exact hw.1.2
  have hm : (c.record.syncs.map (·.output)).Nodup := by
    simp only [StepRecord.wf, Bool.and_eq_true, decide_eq_true_eq] at hw
    exact hw.2
  have ha : afterCheck c s = startExposure lit skipped (checkedContext c s) (raiseShortage c s) := by
    simp [afterCheck, hk]
  have hr : raiseShortage c s = { s with
      seq := { s.seq with context := (raiseShortage c s).seq.context }
      counters := { s.counters with value := (raiseShortage c s).counters.value }
      status := { s.status with flags := (raiseShortage c s).status.flags } } := by
    unfold raiseShortage
    split <;> rfl
  have hfl : ((raiseShortage c s).status.flags, (raiseShortage c s).counters.value) =
      (if findsShortage s c ∧ c.creditShort = false then
        (s.status.flags ||| creditShortFlag,
          s.counters.value.set 8 (word (min 65535 ((s.counters.value[8]).toNat + 1))))
      else (s.status.flags, s.counters.value)) := by
    unfold raiseShortage
    by_cases hf : findsShortage s c ∧ c.creditShort = false
    · rw [if_pos hf, if_pos (by simp [(findsShortage_iff s c).2 hf.1, hf.2])]
      simp [raise, countUp, setContext, satAdd, creditShortCounter]
    · rw [if_neg hf, if_neg (by rwa [Bool.and_eq_true, findsShortage_iff, Bool.not_eq_true'])]
  generalize raiseShortage c s = r at *
  obtain ⟨fl, vl, cx, rfl⟩ : ∃ fl vl cx, r = { s with
      seq := { s.seq with context := cx }
      counters := { s.counters with value := vl }
      status := { s.status with flags := fl } } := ⟨_, _, _, hr⟩
  rw [ha]
  clear ha hr
  let d0 := exposedContext lit skipped (checkedContext c s) s
  let d : StepContext := { d0 with
    gapStart := if lit = 0 ∧ c.record.syncs = [] ∧ c.gapStart = none then some s.timebase.tsc else c.gapStart }
  have hst : startExposure lit skipped (checkedContext c s) { s with
      seq := { s.seq with context := cx }
      counters := { s.counters with value := vl }
      status := { s.status with flags := fl } } = { s with
        seq := { s.seq with
          state := if lit = 0 then .settling else .exposing
          hold := .none
          holdTimer := none
          context := some d }
        channels := { s.channels with channel := Vector.ofFn fun i => lightChannel s lit c.record.channels i }
        syncs := Vector.ofFn fun i => placeOn s.timebase.tsc c.record.syncs i s.syncs[i]
        counters := { s.counters with value := vl }
        status := { s.status with flags := fl } } := by
    generalize hv : placePulses (checkedContext c s).record.syncs (lightChannels lit (checkedContext c s).record.channels
      { s with
        seq := { s.seq with
          state := if lit = 0 then .settling else .exposing
          hold := .none
          holdTimer := none
          context := some d0 }
        counters := { s.counters with value := vl }
        status := { s.status with flags := fl } }) = v
    have hq : stepPulses v = false ↔ c.record.syncs = [] := by
      rw [← hv]
      exact placePulses_stepPulses c.record.syncs s hp
    have hx : v.seq.context = some d0 := by rw [← hv]; rfl
    have hz : v.seq.state = if lit = 0 then .settling else .exposing := by rw [← hv]; rfl
    have hse : v.seq.state = .settling ↔ lit = 0 := by
      by_cases hl : lit = 0 <;> simp [hz, hl]
    rw [show startExposure lit skipped (checkedContext c s) _ = startGap v from by rw [← hv]; rfl]
    unfold startGap
    simp only [hx, hse, hq]
    split
    · rename_i hcond
      have hgd : d = { d0 with gapStart := some s.timebase.tsc } := by
        simp only [d]
        rw [if_pos ⟨hcond.1, hcond.2.2, hcond.2.1⟩]
      rw [← hv, hgd]
      rfl
    · rename_i hcond
      have hgd : d = d0 := by
        simp only [d]
        rw [if_neg (by rintro ⟨h1, h2, h3⟩; exact hcond ⟨h1, h3, h2⟩)]
        rfl
      rw [← hv, hgd]
      rfl
  refine ⟨d, hlit, hskip, ?_, rfl, ?_, ?_, ?_, ?_, ?_, ?_⟩
  · change (checkedContext c s).creditShort = true ↔ _
    rw [← findsShortage_iff]
    simp [checkedContext, or_assoc]
  · intro e he hl
    rw [hst]
    simp only [Fin.getElem_fin, Vector.getElem_ofFn, Fin.eta, lightChannel, entryFor_mem hn he]
    exact if_pos hl
  · intro i hl
    rw [hst]
    simp only [Fin.getElem_fin, Vector.getElem_ofFn, Fin.eta, lightChannel]
    split
    · rw [if_neg (by rw [show inMask lit i = false from hl]; simp)]
    · rfl
  · intro e he
    rw [hst]
    simp only [Fin.getElem_fin, Vector.getElem_ofFn, Fin.eta]
    rw [placeOn_mem hm he]
    have hpl : placedPulse s.timebase.tsc e =
        if e.delay = 0 then .active .stepPulse (s.timebase.tsc + e.width.setWidth 32)
        else .scheduled (s.timebase.tsc + e.delay.setWidth 32)
          (s.timebase.tsc + e.delay.setWidth 32 + e.width.setWidth 32) := by
      unfold placedPulse
      by_cases h0 : e.delay = 0
      · simp only [if_pos h0]
        rw [h0]
        simp
      · simp only [if_neg h0]
    rw [hpl]
  · intro i hi
    rw [hst]
    simp only [Fin.getElem_fin, Vector.getElem_ofFn, Fin.eta]
    rw [placeOn_not_mem hi]
  · rw [hst]
    exact hfl
  · rw [hst]
    rfl

/-! ### The entry of a step -/

/-- Everything that the beginning of a step does. -/
theorem beginStep_begins (source : Option Source) (manual : Bool) (reference : Time) (c : StepContext) (s : State) :
    stepBegins source manual reference c s (beginStep source manual reference c s) := by
  constructor
  · intro h1 h2
    have hd : dueHasCome s (begunContext source manual reference c) = true := decide_eq_true h2
    have hb : beginStep source manual reference c s = tryExposure { s with seq := { s.seq with
        state := .delaying
        context := some { begunContext source manual reference c with dueReached := true } } } := by
      rw [← hd]
      rfl
    rw [hb]
    change Host.Outcome.next (outOfReset reachDue _) = _
    unfold outOfReset
    rw [if_neg (by simp [h1])]
    unfold reachDue
    exact congrArg Host.Outcome.next (if_pos ⟨rfl, hd⟩)
  · intro h
    have hd : dueHasCome s (begunContext source manual reference c) = false :=
      decide_eq_false (Nat.not_le.2 h)
    have hb : beginStep source manual reference c s = tryExposure { s with seq := { s.seq with
        state := .delaying
        context := some { begunContext source manual reference c with dueReached := false } } } := by
      rw [← hd]
      rfl
    rw [hb]
    simp [tryExposure]

/-- Everything that the entry into WAITING does. -/
theorem enterWaiting_enters (c : StepContext) (s : State) : entersWaiting c s (enterWaiting c s) := by
  refine ⟨?_, ?_, ?_⟩
  · rintro (h | ⟨mask, h1, h2⟩)
    · simp [enterWaiting, h]
    · rcases enterWaiting_cases c s with ⟨_, h⟩ | ⟨_, h, _⟩ | ⟨m, _, h, h'⟩
      · exact h
      · simp [h1] at h
      · rw [h1] at h
        cases h
        rw [h']
        exact serve_none h2
  · intro h1 h2
    have h : enterWaiting c s = beginStep none false s.timebase.tsc c
        { s with seq := { s.seq with hold := .none, holdTimer := none } } := by
      simp [enterWaiting, h1, h2, beginStep, dueHasCome, elapsed]
    rw [h]
    exact beginStep_begins _ _ _ _ _
  · intro mask strays rest a h1 h2 h3 h4 h5
    have hd : s.triggers.queue.dropWhile (fun a => !accepts mask a.source) = a :: rest := by
      rw [h3, List.dropWhile_append_of_pos (by simpa using h4)]
      simp [h5]
    have h : enterWaiting c s = beginStep (some a.source) false a.time c { s with
        seq := { s.seq with hold := .none, holdTimer := none }
        triggers := { s.triggers with queue := rest }
        counters := { s.counters with
          value := s.counters.value.set 2 (word (min 65535 ((s.counters.value[2]).toNat + strays.length))) } } := by
      have hl : s.triggers.queue.length - (rest.length + 1) = strays.length := by
        rw [h3]
        simp
      have hs : enterWaiting c s = serve mask c
          { s with seq := { s.seq with state := .waiting, hold := .none, holdTimer := none } } := by
        simp [enterWaiting, h1, h2]
      rw [hs]
      unfold serve
      simp only [hd, hl]
      rfl
    rw [h]
    exact beginStep_begins _ _ _ _ _

end Sys2Proof.Machine
end

