-- ==== Sys2Proof/Laws/Memory.lean ====
section
/-! SUPPORT. The memory of the store images: programming words keeps the canonical form, and a read after it gives the
words programmed inside them and the old words outside. -/
namespace Sys2Proof.Machine

theorem Memory.entries_of_mem {c : Nat × Word} :
    ∀ {ws : List Word} {a : Nat}, c ∈ Memory.entries a ws → a ≤ c.1 ∧ c.1 < a + ws.length ∧ c.2 ≠ Config.erased
  | [], a, h => by simp [Memory.entries] at h
  | w :: ws, a, h => by
    have step : c ∈ Memory.entries (a + 1) ws → a ≤ c.1 ∧ c.1 < a + (w :: ws).length ∧ c.2 ≠ Config.erased := fun hc => by
      obtain ⟨h1, h2, h3⟩ := Memory.entries_of_mem hc
      simp only [List.length_cons]
      exact ⟨by omega, by omega, h3⟩
    by_cases he : w = Config.erased
    · simp only [Memory.entries, he, if_true] at h
      exact step h
    · simp only [Memory.entries, he, if_false, List.mem_cons] at h
      rcases h with rfl | h
      · exact ⟨le_rfl, by simp, he⟩
      · exact step h

theorem Memory.entries_pairwise : ∀ (ws : List Word) (a : Nat), (Memory.entries a ws).Pairwise (fun x y => x.1 < y.1)
  | [], _ => by simp [Memory.entries]
  | w :: ws, a => by
    have ih := Memory.entries_pairwise ws (a + 1)
    by_cases he : w = Config.erased
    · simpa [Memory.entries, he] using ih
    · simp only [Memory.entries, he, if_false, List.pairwise_cons]
      exact ⟨fun c hc => (Memory.entries_of_mem hc).1, ih⟩

/-- Programming keeps the canonical form. -/
theorem Memory.program_wf {m : Memory} (h : Memory.wf m) (a : Nat) (ws : List Word) : Memory.wf (m.program a ws) := by
  obtain ⟨hp, hn⟩ := h
  constructor
  · simp only [Memory.program, List.append_assoc, List.pairwise_append]
    refine ⟨hp.filter _, ⟨Memory.entries_pairwise ws a, hp.filter _, ?_⟩, ?_⟩
    · intro x hx y hy
      have := (Memory.entries_of_mem hx).2.1
      simp only [List.mem_filter, decide_eq_true_eq] at hy
      omega
    · intro x hx y hy
      simp only [List.mem_filter, decide_eq_true_eq] at hx
      rcases List.mem_append.mp hy with hy | hy
      · have := (Memory.entries_of_mem hy).1
        omega
      · simp only [List.mem_filter, decide_eq_true_eq] at hy
        omega
  · intro c hc
    simp only [Memory.program, List.append_assoc, List.mem_append, List.mem_filter] at hc
    rcases hc with hc | hc | hc
    · exact hn c hc.1
    · exact (Memory.entries_of_mem hc).2.2
    · exact hn c hc.1

theorem Memory.lookup_filter (p : Nat → Bool) (b : Nat) :
    ∀ m : Memory, (m.filter fun c => p c.1).lookup b = if p b then m.lookup b else none
  | [] => by simp
  | (x, w) :: m => by
    have ih := Memory.lookup_filter p b m
    by_cases hx : b = x
    · subst hx
      by_cases hb : p b = true
      · simp [hb]
      · simp [hb, ih]
    · have hne : (b == x) = false := by simpa using hx
      by_cases hp : p x = true
      · simp [hp, List.lookup_cons, hne, ih]
      · simp [hp, List.lookup_cons, hne, ih]

theorem Memory.lookup_append (b : Nat) :
    ∀ m n : Memory, (m ++ n).lookup b = match m.lookup b with | some w => some w | none => n.lookup b
  | [], n => by simp
  | (x, w) :: m, n => by
    by_cases hx : (b == x) = true
    · simp [List.lookup_cons, hx]
    · simp only [Bool.not_eq_true] at hx
      simp [List.lookup_cons, hx, Memory.lookup_append b m n]

theorem Memory.lookup_entries (b : Nat) :
    ∀ (ws : List Word) (a : Nat), (Memory.entries a ws).lookup b =
      if a ≤ b ∧ ws[b - a]? ≠ some Config.erased then ws[b - a]? else none
  | [], a => by simp [Memory.entries]
  | w :: ws, a => by
    have ih := Memory.lookup_entries b ws (a + 1)
    rcases Nat.lt_trichotomy b a with hb | hb | hb
    · have hba : (b == a) = false := by simp; omega
      have h1 : ¬ a ≤ b := by omega
      have h2 : ¬ a + 1 ≤ b := by omega
      by_cases he : w = Config.erased <;> simp [Memory.entries, he, ih, h1, h2, List.lookup_cons, hba]
    · subst hb
      have h2 : ¬ b + 1 ≤ b := by omega
      by_cases he : w = Config.erased <;> simp [Memory.entries, he, ih, h2]
    · have hba : (b == a) = false := by simp; omega
      have h1 : a ≤ b := by omega
      have h2 : a + 1 ≤ b := by omega
      have h3 : b - a = (b - (a + 1)) + 1 := by omega
      by_cases he : w = Config.erased <;>
        simp [Memory.entries, he, ih, h1, h2, h3, List.lookup_cons, hba]

theorem Memory.lookup_program (m : Memory) (a b : Nat) (ws : List Word) :
    (m.program a ws).lookup b =
      if a ≤ b ∧ b < a + ws.length then (if ws[b - a]? = some Config.erased then none else ws[b - a]?)
      else m.lookup b := by
  have hf := Memory.lookup_filter (fun x => decide (x < a)) b m
  have hg := Memory.lookup_filter (fun x => decide (a + ws.length ≤ x)) b m
  simp only [Memory.program, Memory.lookup_append, hf, hg, Memory.lookup_entries]
  by_cases h1 : a ≤ b
  · have h2 : ¬ b < a := by omega
    by_cases h3 : b < a + ws.length
    · have h4 : ¬ a + ws.length ≤ b := by omega
      have h5 : b - a < ws.length := by omega
      by_cases he : ws[b - a] = Config.erased <;> simp [h1, h2, h3, h4, h5, he]
    · have h4 : a + ws.length ≤ b := by omega
      have h5 : ws[b - a]? = none := by simp; omega
      simp [h2, h3, h4, h5]
  · have h2 : b < a := by omega
    simp only [h1, h2, decide_true, if_true, false_and, if_false]
    cases m.lookup b with
    | some w => rfl
    | none =>
      have h4 : ¬ a + ws.length ≤ b := by omega
      simp [h4]

/-- A read inside the words programmed gives the word programmed there. -/
theorem Memory.read_program_inside (m : Memory) (a k : Nat) (ws : List Word) (h : k < ws.length) :
    (m.program a ws).read (a + k) = ws[k] := by
  have h1 : a ≤ a + k ∧ a + k < a + ws.length := by omega
  have h2 : a + k - a = k := by omega
  by_cases he : ws[k] = Config.erased <;> simp [Memory.read, Memory.lookup_program, h1, h2, h, he]

/-- A read outside the words programmed gives the word that was there. -/
theorem Memory.read_program_outside (m : Memory) (a b : Nat) (ws : List Word) (h : b < a ∨ a + ws.length ≤ b) :
    (m.program a ws).read b = m.read b := by
  have h1 : ¬ (a ≤ b ∧ b < a + ws.length) := by omega
  simp [Memory.read, Memory.lookup_program, h1]

@[simp] theorem Memory.length_slice (m : Memory) (a n : Nat) : (m.slice a n).length = n := by simp [Memory.slice]

@[simp] theorem length_erasedSector : erasedSector.length = 512 := List.length_replicate

@[simp] theorem length_freeSector (n : Nat) : (freeSector n).length = 512 :=
  (List.length_map _).trans List.length_range

/-- Reading back the words programmed. -/
theorem Memory.slice_program (m : Memory) (a : Nat) (ws : List Word) : (m.program a ws).slice a ws.length = ws := by
  apply List.ext_getElem
  · simp
  · intro k h1 h2
    simp [Memory.slice, Memory.read_program_inside m a k ws h2]

/-- Two halves of a range of words. -/
theorem Memory.slice_append (m : Memory) (a n k : Nat) : m.slice a n ++ m.slice (a + n) k = m.slice a (n + k) := by
  simp [Memory.slice, List.range_add, Nat.add_assoc, Function.comp_def]

/-- The images are empty, hence in canonical form, where the array is blank. -/
theorem Memory.wf_reset : Memory.wf State.reset.store.array.images :=
   ⟨List.Pairwise.nil, fun _ h => nomatch h⟩

/-- Replacing an image sector keeps the canonical form. -/
theorem setImageSector_wf (slot : Fin 6) (k : Nat) (ws : List Word) (s : State) (h : Memory.wf s.store.array.images) :
    Memory.wf (setImageSector slot k ws s).store.array.images := Memory.program_wf h _ _

/-- The one other operation that writes the images: a word that changes by itself. -/
theorem changeStoredWord_wf (place : StoredWord) (flip : Word) (s : State) (h : Memory.wf s.store.array.images) :
    Memory.wf (changeStoredWord place flip s).store.array.images := by
  cases place with
  | header slot field =>
    simp only [changeStoredWord]
    split <;> exact h
  | image slot index => exact Memory.program_wf h _ _
  | startup copy field =>
    simp only [changeStoredWord]
    split <;> exact h

/-! ### Sector steps -/

/-- A programmed header reads blank exactly when every word of it reads erased. -/
theorem condition_written_eq_blank (w : HeaderWords) :
    (HeaderSector.written w).condition = .blank ↔ w.readsErased = true := by
  simp only [HeaderSector.condition]
  by_cases h : w.readsErased = true
  · simp [h]
  · rw [if_neg h]
    split
    · split <;> simp [h]
    · simp [h]

/-- A header whose erase attempt failed its verify does not read blank. -/
theorem condition_unerasedHeader (kept : Bool) (h : HeaderSector) : (unerasedHeader kept h).condition ≠ .blank := by
  cases h with
  | blank => simp [unerasedHeader, HeaderSector.condition]
  | spoiled => simp [unerasedHeader, HeaderSector.condition]
  | written w =>
    simp only [unerasedHeader]
    split
    · rename_i hk
      simp only [Bool.and_eq_true, Bool.not_eq_true'] at hk
      rw [Ne, condition_written_eq_blank, hk.2]
      simp
    · simp [HeaderSector.condition]

/-- An erase attempt does to the array what R152 says of one. -/
theorem eraseSector_erases (slot : Fin 6) (sector : Nat) (verified : Bool) (s : State) :
    erasesSector slot sector verified s (eraseSector slot sector verified s) := by
  have other : ∀ j : Fin 6, (j ≠ slot ∨ 0 ≠ 0) → ¬slot.val = j.val := by
    rintro j (h | h) h'
    · exact h (Fin.ext h'.symm)
    · exact h rfl
  by_cases h : sector = 0 <;> cases verified
  · subst h
    simp only [eraseSector, erasesSector]
    refine ⟨fun j hj => by simp [other j hj], by simp, by simp, by simp, ?_, by simp⟩
    simpa using condition_unerasedHeader _ _
  · subst h
    simp only [eraseSector, erasesSector]
    exact ⟨fun j hj => by simp [other j hj], by simp, by simp, by simp, by simp, by simp⟩
  · simp only [eraseSector, h, erasesSector]
    refine ⟨by simp, by simp, fun a ha => ?_, by simp, by simp, by simp⟩
    exact Memory.read_program_outside _ _ _ _ (by simpa using ha)
  · simp only [eraseSector, h, erasesSector]
    refine ⟨by simp, by simp, fun a ha => ?_, by simp, by simp, fun _ _ k hk => ?_⟩
    · exact Memory.read_program_outside _ _ _ _ (by simpa using ha)
    · exact (Memory.read_program_inside _ _ _ _ (by simpa using hk)).trans (List.getElem_replicate _)

/-- What a hardware reset cuts off changes the array and the count of free values, and nothing else. -/
theorem cutOffStep_frame (s : State) :
    cutOffStep s = { s with store := { s.store with array := (cutOffStep s).store.array }
                            freeCount := (cutOffStep s).freeCount } := by
  unfold cutOffStep cutOffErase cutOffProgram cutOffStartup programPart
  split <;> (repeat' split) <;> rfl

end Sys2Proof.Machine
end

