-- ==== Sys2Proof/Laws/PerInstr.lean ====
section
/-! SUPPORT. The family Codes, one lemma per constructor of Instr: a word that COMMAND takes as a command is that command's
own code (R168), and no word is taken as a row that has no code. -/
namespace Sys2Proof

/-- The code of the command that a word is taken as is that word. -/
theorem commandCode_commandOfCode (code : Word) : commandCode (commandOfCode code) = some code := by
  unfold commandOfCode
  split <;> first | rfl | (simp only [commandCode, Option.some.injEq]; apply BitVec.eq_of_toNat_eq; simp_all)

/-- A row is taken only for its own code. -/
def Laws.Codes.Statement (c : Instr) : Prop := ∀ code : Word, commandOfCode code = c → commandCode c = some code

/-- The family's one argument. -/
theorem Laws.Codes.holds (c : Instr) : Laws.Codes.Statement c := fun code h => h ▸ commandCode_commandOfCode code

theorem Laws.Codes.run : Laws.Codes.Statement .run :=
  Laws.Codes.holds _
theorem Laws.Codes.stop : Laws.Codes.Statement .stop :=
  Laws.Codes.holds _
theorem Laws.Codes.pause : Laws.Codes.Statement .pause :=
  Laws.Codes.holds _
theorem Laws.Codes.resume : Laws.Codes.Statement .resume :=
  Laws.Codes.holds _
theorem Laws.Codes.step : Laws.Codes.Statement .step :=
  Laws.Codes.holds _
theorem Laws.Codes.softTrigger : Laws.Codes.Statement .softTrigger :=
  Laws.Codes.holds _
theorem Laws.Codes.commit : Laws.Codes.Statement .commit :=
  Laws.Codes.holds _
theorem Laws.Codes.cancelCommit : Laws.Codes.Statement .cancelCommit :=
  Laws.Codes.holds _
theorem Laws.Codes.copyActive : Laws.Codes.Statement .copyActive :=
  Laws.Codes.holds _
theorem Laws.Codes.clearStaging : Laws.Codes.Statement .clearStaging :=
  Laws.Codes.holds _
theorem Laws.Codes.openLoad : Laws.Codes.Statement .openLoad :=
  Laws.Codes.holds _
theorem Laws.Codes.openRead : Laws.Codes.Statement .openRead :=
  Laws.Codes.holds _
theorem Laws.Codes.closePort : Laws.Codes.Statement .closePort :=
  Laws.Codes.holds _
theorem Laws.Codes.unlockChannel : Laws.Codes.Statement .unlockChannel :=
  Laws.Codes.holds _
theorem Laws.Codes.pulseSync : Laws.Codes.Statement .pulseSync :=
  Laws.Codes.holds _
theorem Laws.Codes.flushRecords : Laws.Codes.Statement .flushRecords :=
  Laws.Codes.holds _
theorem Laws.Codes.clearCounters : Laws.Codes.Statement .clearCounters :=
  Laws.Codes.holds _
theorem Laws.Codes.save : Laws.Codes.Statement .save :=
  Laws.Codes.holds _
theorem Laws.Codes.load : Laws.Codes.Statement .load :=
  Laws.Codes.holds _
theorem Laws.Codes.erase : Laws.Codes.Statement .erase :=
  Laws.Codes.holds _
theorem Laws.Codes.setStartup : Laws.Codes.Statement .setStartup :=
  Laws.Codes.holds _
theorem Laws.Codes.abortStore : Laws.Codes.Statement .abortStore :=
  Laws.Codes.holds _
theorem Laws.Codes.softReset : Laws.Codes.Statement .softReset :=
  Laws.Codes.holds _
theorem Laws.Codes.unknownCommand (code : Word) : Laws.Codes.Statement (.unknownCommand code) :=
  Laws.Codes.holds _
theorem Laws.Codes.tscLoRead : Laws.Codes.Statement .tscLoRead :=
  Laws.Codes.holds _
theorem Laws.Codes.rec9Read : Laws.Codes.Statement .rec9Read :=
  Laws.Codes.holds _
theorem Laws.Codes.tpDataWrite (w : Word) : Laws.Codes.Statement (.tpDataWrite w) :=
  Laws.Codes.holds _
theorem Laws.Codes.tpDataRead : Laws.Codes.Statement .tpDataRead :=
  Laws.Codes.holds _
theorem Laws.Codes.statusFlagsWrite (w : Word) : Laws.Codes.Statement (.statusFlagsWrite w) :=
  Laws.Codes.holds _
theorem Laws.Codes.chEnableWrite (w : Word) : Laws.Codes.Statement (.chEnableWrite w) :=
  Laws.Codes.holds _
theorem Laws.Codes.syncConfigWrite (w : Word) : Laws.Codes.Statement (.syncConfigWrite w) :=
  Laws.Codes.holds _
theorem Laws.Codes.chCeilingWrite (w : Word) : Laws.Codes.Statement (.chCeilingWrite w) :=
  Laws.Codes.holds _
theorem Laws.Codes.policyWrite (w : Word) : Laws.Codes.Statement (.policyWrite w) :=
  Laws.Codes.holds _
theorem Laws.Codes.recThresholdWrite (w : Word) : Laws.Codes.Statement (.recThresholdWrite w) :=
  Laws.Codes.holds _
theorem Laws.Codes.irqEnableWrite (w : Word) : Laws.Codes.Statement (.irqEnableWrite w) :=
  Laws.Codes.holds _
theorem Laws.Codes.registerWrite (addr : BitVec 6) (w : Word) : Laws.Codes.Statement (.registerWrite addr w) :=
  Laws.Codes.holds _
theorem Laws.Codes.triggerEdge (input : Fin 4) (level : Bool) : Laws.Codes.Statement (.triggerEdge input level) :=
  Laws.Codes.holds _
theorem Laws.Codes.faultAssert (channel : Fin 8) : Laws.Codes.Statement (.faultAssert channel) :=
  Laws.Codes.holds _
theorem Laws.Codes.faultLineFall (channel : Fin 8) : Laws.Codes.Statement (.faultLineFall channel) :=
  Laws.Codes.holds _
theorem Laws.Codes.hardwareReset : Laws.Codes.Statement .hardwareReset :=
  Laws.Codes.holds _
theorem Laws.Codes.resetEnd : Laws.Codes.Statement .resetEnd :=
  Laws.Codes.holds _
theorem Laws.Codes.millisecondEvent : Laws.Codes.Statement .millisecondEvent :=
  Laws.Codes.holds _
theorem Laws.Codes.holdTimerExpiry : Laws.Codes.Statement .holdTimerExpiry :=
  Laws.Codes.holds _
theorem Laws.Codes.dueInstant : Laws.Codes.Statement .dueInstant :=
  Laws.Codes.holds _
theorem Laws.Codes.gateWidthEnd (channel : Fin 8) : Laws.Codes.Statement (.gateWidthEnd channel) :=
  Laws.Codes.holds _
theorem Laws.Codes.syncStart (output : Fin 4) : Laws.Codes.Statement (.syncStart output) :=
  Laws.Codes.holds _
theorem Laws.Codes.syncEnd (output : Fin 4) : Laws.Codes.Statement (.syncEnd output) :=
  Laws.Codes.holds _
theorem Laws.Codes.gapEnd : Laws.Codes.Statement .gapEnd :=
  Laws.Codes.holds _
theorem Laws.Codes.holdoffWindowClose (input : Fin 4) : Laws.Codes.Statement (.holdoffWindowClose input) :=
  Laws.Codes.holds _
theorem Laws.Codes.eraseAttemptDone (verified : Bool) : Laws.Codes.Statement (.eraseAttemptDone verified) :=
  Laws.Codes.holds _
theorem Laws.Codes.programStepDone (verified : Bool) : Laws.Codes.Statement (.programStepDone verified) :=
  Laws.Codes.holds _
theorem Laws.Codes.sectorReadDone : Laws.Codes.Statement .sectorReadDone :=
  Laws.Codes.holds _
theorem Laws.Codes.storedWordChange (place : StoredWord) (flip : Word) : Laws.Codes.Statement (.storedWordChange place flip) :=
  Laws.Codes.holds _

end Sys2Proof
end

