-- ==== Sys2Proof/Tests/Slice0.lean ====
section
/-! SUPPORT. Tests: the checks of WellFormed, the spec's worked encodings and costs, single commands on small states, and
for every statement with hypotheses a state and operands that meet them. Expected values are the spec's (10.4, 11.1, 11.2,
11.4) or follow from a rule by hand. -/
namespace Sys2Proof.Tests
open Sys2Proof.Machine

/-! ### Ill-formed terms -/

theorem test_wf_refuses_dedicated_address : (Instr.registerWrite 0x10 0).wf = false := by decide
theorem test_wf_refuses_known_code : (Instr.unknownCommand 0x3F).wf = false := by decide
theorem test_wf_refuses_change_of_nothing : (Instr.storedWordChange (.image 5 4095) 0).wf = false := by decide
theorem test_wf_takes_rows :
    (Instr.registerWrite 0x12 1).wf = true ∧ (Instr.unknownCommand 0).wf = true ∧
      (Instr.storedWordChange (.header 0 .label) 1).wf = true := by decide

/-! ### Codes and encodings -/

/-- The codes of R168. -/
theorem test_command_codes :
    commandOfCode 0x01 = .run ∧ commandOfCode 0x10 = .commit ∧ commandOfCode 0x1A = .closePort ∧
      commandOfCode 0x21 = .pulseSync ∧ commandOfCode 0x29 = .clearCounters ∧ commandOfCode 0x34 = .abortStore ∧
      commandOfCode 0x3F = .softReset ∧ commandOfCode 0 = .unknownCommand 0 ∧
      commandOfCode 0x0101 = .unknownCommand 0x0101 := by decide

theorem test_no_word_spells_a_command : decodeTableWord 16 1 = none := rfl

/-- The worked record of 10.4. -/
def workedRecord : StepRecord :=
  { tag := 0, advance := .trigger 1, delay := 500, gap := 200, channels := [{ channel := 2, level := 1023, width := 300 }]
    syncs := [{ output := 0, width := 400, delay := 100 }] }

theorem test_worked_record_encodes :
    encodeRecord workedRecord = [0x0011, 0x4001, 0x01F4, 0x00C8, 0x43FF, 0x012C, 0x0190, 0x0064] := by decide

theorem test_worked_record_decodes :
    (decodeRecord [0x0011, 0x4001, 0x01F4, 0x00C8, 0x43FF, 0x012C, 0x0190, 0x0064]).toOption = some workedRecord := by
  decide

/-- The worked order entry of 10.4: step 3, repeat count 4, HALT_AFTER. -/
theorem test_worked_order_entry :
    decodeOrder 0x3803 = { step := 3, repeatLess1 := 3, haltAfter := true } ∧ encodeOrder (decodeOrder 0x3803) = 0x3803 :=
  by decide

/-- Step 1 of 11.1, by its second channel entry and its sync entry. -/
theorem test_station_words :
    encodeChannel { channel := 5, level := 600, width := 300 } = [0xA258, 0x012C] ∧
      encodeSync { output := 1, width := 250, delay := 0 } = [0x40FA, 0] := by decide

/-- The first record that the station of 11.4 receives: a sync width of 0. -/
theorem test_dropped_word_gives_bad_field :
    (match decodeRecord [0x0111, 0x4001, 0x07D0, 0x0064, 0x0384, 0x0064, 0x0000, 0x0241] with
      | .error e => some e
      | .ok _ => none) = some PortError.badField := by decide

/-- The costs of 11.1 and 11.2, and the largest cost of R87. -/
theorem test_costs :
    cost 900 256 150 = 132 ∧ cost 600 256 300 = 176 ∧ cost 1000 256 2000 = 1954 ∧ cost 1000 256 1000 = 977 ∧
      cost 1023 256 65535 = 65472 ∧ cost 1 1 1 = 1 := by decide

/-! ### Small states -/

/-- The state that a command leaves. -/
def after : Host.Outcome State Fault Refusal → State
  | .next t => t
  | .fault f => nomatch f
  | .refused _ => State.reset

def stepA : StepRecord :=
  { tag := 1, advance := .immediate, delay := 5, gap := 3, channels := [{ channel := 0, level := 900, width := 150 }]
    syncs := [{ output := 0, width := 100, delay := 0 }] }
def stepB : StepRecord := { tag := 2, advance := .trigger 0x11, delay := 0, gap := 0, channels := [], syncs := [] }

/-- Two entries: step 0 twice, then step 1 with HALT_AFTER. -/
def program : Bank :=
  { steps := ((Vector.replicate 128 none).set 0 (some stepA)).set 1 (some stepB)
    order := [decodeOrder 0x1000, decodeOrder 0x0801] }

/-- After the boot of a part with a blank array. -/
def ready : State := { State.reset with store := { State.reset.store with boot := .done } }

/-- A program in the active bank, channel 0 enabled. -/
def loaded : State :=
  { ready with
      tables := { ready.tables with bankA := program }
      channels := { ready.channels with
        channel := ready.channels.channel.set 0 { ready.channels.channel[0] with enabled := true } } }

/-- A program in the staging bank. -/
def staged : State := { ready with tables := { ready.tables with bankB := program } }

def entryA : OrderEntry := decodeOrder 0x1000
def entryB : OrderEntry := decodeOrder 0x0801

/-- The step A begun at time 0. -/
def begunA : StepContext := { freshContext loaded entryA stepA with begun := true, due := 5 }

/-- The Sequencer in a state, with a step. -/
def playing (state : SeqState) (c : StepContext) : State :=
  { loaded with
      seq := { loaded.seq with state := state, mode := .continuous, context := some c }
      records := { loaded.records with reserved := true } }

/-- The step A in DELAYING with its due instant come. -/
def due : State := { playing .delaying begunA with timebase := { loaded.timebase with tsc := 5 } }

/-- The step A settling with its gap run. -/
def settled : State :=
  let c := { begunA with exposureStart := some 5, lit := 1, lastGateClose := some 155, gapStart := some 155 }
  { playing .settling c with timebase := { loaded.timebase with tsc := 158 } }

/-- Gate 0 open until 155. -/
def lit (s : State) : State :=
  setChannel 0 { s.channels.channel[0] with gate := some { level := 900, closing := 155 } } s

/-- The step A exposing, channel 0 lit, its gate's time come. -/
def exposing : State :=
  lit { playing .exposing { begunA with exposureStart := some 5, lit := 1 } with
    timebase := { loaded.timebase with tsc := 155 } }

def withArgs (a b c : Word) (s : State) : State :=
  { s with cmd := { s.cmd with arg := ((s.cmd.arg.set 0 a).set 1 b).set 2 c } }

/-! ### Single commands -/

/-- R16: the swap of a COMMIT in STOPPED. -/
theorem test_commit_swaps :
    (after (exec .commit staged)).tables.active = .b ∧ (after (exec .commit staged)).status.flags = commitTakenFlag := by
  decide

/-- R13: the staging bank is empty. -/
theorem test_commit_refused :
    (after (exec .commit ready)).cmd.result = .validationFailed ∧ (after (exec .commit ready)).cmd.detail = 0xFFFF := by
  decide

/-- R29, R31, R35: RUN of an IMMEDIATE step enters DELAYING, due at the delay. -/
theorem test_run_begins :
    (after (exec .run loaded)).seq.state = .delaying ∧
      ((after (exec .run loaded)).seq.context.map (·.due)) = some 5 := by decide

/-- R28: no program. -/
theorem test_run_empty : (after (exec .run ready)).cmd.result = .emptyProgram := by decide

/-- R37, R80, R89, 11.1: channel 0 debited 132, gate open, SYNC0 ACTIVE. -/
theorem test_due_instant :
    (after (exec .dueInstant due)).seq.state = .exposing ∧
      ((after (exec .dueInstant due)).channels.channel[0]).credit = 65403 ∧
      ((after (exec .dueInstant due)).syncs[0]).pulse = .active .stepPulse 105 := by decide

/-- R41: the second repetition is entered after the first completes. -/
theorem test_gap_end :
    (after (exec .gapEnd settled)).seq.repetition = 2 ∧ (after (exec .gapEnd settled)).records.queue.length = 1 := by
  decide

/-- R46: STOP cuts the open gate into the record. -/
theorem test_stop_cuts :
    ((after (exec .stop exposing)).records.queue.map fun r => (r.outcome, r.cut)) = [(.stopped, 1)] := by decide

/-- R56: the pair of reads at a carry. -/
theorem test_tsc_read :
    (after (exec .tscLoRead { ready with timebase := { ready.timebase with tsc := 0x0001FFFF } })).readData = 0xFFFF ∧
      (after (exec .tscLoRead { ready with timebase := { ready.timebase with tsc := 0x0001FFFF } })).timebase.snapshot
        = 1 := by decide

/-- R141, R140: a write with no session. -/
theorem test_no_session :
    (after (exec (.tpDataWrite 0x0011) ready)).port.lastError = .noSession ∧
      (after (exec (.tpDataWrite 0x0011) ready)).port.errorIndex = 0xFFFF := by decide

/-- R85: 11.2's ceiling of 4000 lowers the credit. -/
theorem test_ceiling : ((after (exec (.chCeilingWrite 4000) ready)).channels.channel[0]).credit = 4000 := by decide

/-- R161, R162: eight sector reads end the boot of a blank array NOT_SET. -/
theorem test_boot_last_read :
    (after (exec .sectorReadDone { State.reset with store := { State.reset.store with boot := .scanStartup55 none } })).store.bootOutcome
      = .notSet := by decide

/-- R57: the 1000th count. -/
theorem test_millisecond_divider :
    (microsecond { ready with timebase := { ready.timebase with divider := 999 } }).timebase
      = { ready.timebase with tsc := 1, divider := 0, msDue := true } := by decide

/-- R181: a write of 0x0000 and of 0xFFFF to HOLD_TIMEOUT is taken; an unused address ignores its write. -/
theorem test_register_writes :
    (after (exec (.registerWrite 0x18 0xFFFF) ready)).seq.holdTimeout = 0xFFFF ∧
      (after (exec (.registerWrite 0x3F 7) ready)).status.flags = 0 := by decide

/-! ### Witnesses: states and operands that meet the hypotheses of the statements, clause by clause -/

def tick (n : Nat) (s : State) : State := { s with timebase := { s.timebase with divider := n } }
def withMs (s : State) : State := { s with timebase := { s.timebase with msDue := true } }
def inState (state : SeqState) (s : State) : State := { s with seq := { s.seq with state := state } }
def asserted : State := { ready with inReset := true }

theorem test_witness_idle :
    ((tick 999 ready).pending = [] ∧ (tick 999 ready).inReset = false ∧ dueEvents (tick 999 ready) = []) ∧
    ((withMs ready).pending = [] ∧ (withMs ready).inReset = false ∧ dueEvents (withMs ready) ≠ []) := by decide

theorem test_witness_booting :
    (Instr.softReset ∈ codedCommands ∧ commandCode .softReset = some 0x3F ∧ State.reset.inReset = false ∧
      booting State.reset = true) ∧
    knownCode 0 = false ∧ ((Instr.unknownCommand 0x40).wf = true ∧ commandCode (.unknownCommand 0x40) = some 0x40) := by
  decide

theorem test_witness_reset_asserted :
    asserted.inReset = true ∧ Instr.run ∈ codedCommands ∧ busAccess .tpDataRead = true := by decide

def gapped : Bank := { program with order := [entryA, decodeOrder 0x007F] }

theorem test_witness_validation :
    Bank.empty.order = [] ∧ gapped.order[1]? = some (decodeOrder 0x007F) ∧
      (gapped.steps[(decodeOrder 0x007F).step]).isNone = true ∧
      ∀ (m : Nat) (f : OrderEntry), m < 1 → gapped.order[m]? = some f → (gapped.steps[f.step]).isSome = true := by
  refine ⟨rfl, by decide, by decide, ?_⟩
  intro m f hm hf
  obtain rfl : m = 0 := by omega
  obtain rfl : entryA = f := Option.some.inj hf
  decide

def reading (bank : BankRole) (s : State) : State :=
  { s with port := { s.port with kind := .read, table := .order, bank := bank, next := 1 } }
def loading (table : TableKind) (next : Nat) (s : State) : State :=
  { s with port := { s.port with kind := .load, table := table, bank := .staging, start := next, next := next } }
def pendingCommit (s : State) : State := { s with tables := { s.tables with commitPending := true } }
def saving : State :=
  { staged with store := { staged.store with
      job := .save 5 .staging .b 7 1 (.programming 0), operation := .save, slot := 5 } }

theorem test_witness_commit_swaps :
    commandable (reading .staging staged) ∧ saveInFlight (reading .staging staged) = false ∧
      loadInFlight (reading .staging staged) = false ∧ loadSession (reading .staging staged) = false ∧
      (reading .staging staged).tables.commitPending = false ∧ (reading .staging staged).tables.incomplete = false ∧
      (stagingBank (reading .staging staged)).validate = none ∧ (reading .staging staged).seq.state = .stopped := by decide

theorem test_witness_commit_pends :
    (commandable (inState .paused staged) ∧ saveInFlight (inState .paused staged) = false ∧
      loadInFlight (inState .paused staged) = false ∧ loadSession (inState .paused staged) = false ∧
      (inState .paused staged).tables.commitPending = false ∧ (inState .paused staged).tables.incomplete = false ∧
      (stagingBank (inState .paused staged)).validate = none ∧ (inState .paused staged).seq.state ≠ .stopped) ∧
    (commandable (pendingCommit staged) ∧ (pendingCommit staged).tables.commitPending = true) ∧
    (commandable staged ∧ staged.tables.commitPending = false) := by decide

/-- The hypothesis of CommitRefusedInOrder, as a test that can be evaluated. -/
def commitRefusedFor (s : State) (r : ResultCode) (d : Word) : Bool :=
  if saveInFlight s = true ∨ loadInFlight s = true then r = .storeBusy && d = 0
  else if s.port.kind = .load ∨ s.port.kind = .desync then r = .portOpen && d = 0
  else if s.tables.commitPending = true then r = .commitPending && d = 0
  else if s.tables.incomplete = true then r = .stagingIncomplete && d = 0
  else r = .validationFailed && (stagingBank s).validate = some d

theorem test_witness_commit_refused :
    commitRefusedFor (pendingCommit (loading .steps 0 saving)) .storeBusy 0 ∧
    commitRefusedFor (pendingCommit (loading .steps 0 staged)) .portOpen 0 ∧
    commitRefusedFor (pendingCommit staged) .commitPending 0 ∧
    commitRefusedFor { staged with tables := { staged.tables with incomplete := true } } .stagingIncomplete 0 ∧
    commitRefusedFor ready .validationFailed 0xFFFF ∧
    commitRefusedFor { ready with tables := { ready.tables with bankB := gapped } } .validationFailed 1 ∧
    commandable saving ∧ commandable staged ∧ commandable ready := by decide

theorem test_witness_staging_replaced :
    commandable (reading .staging loaded) ∧ (reading .staging loaded).tables.commitPending = false ∧
      loadSession (reading .staging loaded) = false ∧ saveInFlight (reading .staging loaded) = false ∧
      loadInFlight (reading .staging loaded) = false := by decide

theorem test_witness_run :
    (commandable (withArgs 1 65535 1 loaded) ∧ (withArgs 1 65535 1 loaded).seq.state = .stopped ∧
      (activeBank (withArgs 1 65535 1 loaded)).order ≠ [] ∧
      RunMode.passes.code = ((withArgs 1 65535 1 loaded).cmd.arg[0]).toNat ∧
      ((withArgs 1 65535 1 loaded).cmd.arg[1]) ≠ 0 ∧ ((withArgs 1 65535 1 loaded).cmd.arg[2]).toNat ≤ 1) ∧
    (commandable (withArgs 4 0 0 loaded) ∧ 3 < ((withArgs 4 0 0 loaded).cmd.arg[0]).toNat) ∧
    ((withArgs 1 0 0 loaded).cmd.arg[0] = 1 ∧ (withArgs 1 0 0 loaded).cmd.arg[1] = 0) ∧
    (commandable (inState .paused loaded) ∧ (inState .paused loaded).seq.state ≠ .stopped) ∧
    (commandable ready ∧ ready.seq.state = .stopped ∧ (activeBank ready).order = []) := by decide

theorem test_witness_resume :
    (commandable (inState .paused loaded) ∧ (inState .paused loaded).seq.state = .paused) ∧
    (commandable loaded ∧ loaded.seq.state ≠ .paused) ∧
    (atCursor loaded = some (entryA, stepA) ∧ stepA.advance = .immediate ∧ stepA.delay ≠ 0 ∧
      loaded.seq.mode ≠ .manual ∧ placesTaken loaded < 32) := by decide

def someRecord : ShotRecord := shotRecord .done begunA loaded
def recordsQueued (n : Nat) (s : State) : State :=
  { s with records := { s.records with queue := List.replicate n someRecord } }
def atStepB (s : State) : State := { s with seq := { s.seq with position := 1 } }

theorem test_witness_entry :
    (atCursor (recordsQueued 32 loaded) = some (entryA, stepA) ∧ loaded.policy.recordPolicy = .hold ∧
      32 ≤ placesTaken (recordsQueued 32 loaded)) ∧
    (atCursor (atStepB (recordsQueued 31 loaded)) = some (entryB, stepB) ∧
      placesTaken (atStepB (recordsQueued 31 loaded)) < 32 ∧ stepB.advance = .trigger 0x11 ∧
      ∀ a ∈ (atStepB loaded).triggers.queue, accepts 0x11 a.source = false) := by decide

def queued (l : List Arrival) (s : State) : State := { s with triggers := { s.triggers with queue := l } }

theorem test_witness_serve :
    (queued [{ source := 1, time := 3 }, { source := 4, time := 9 }, { source := 0, time := 11 }] loaded).triggers.queue =
      [{ source := 1, time := 3 }] ++ { source := 4, time := 9 } :: [{ source := 0, time := 11 }] ∧
    (∀ x ∈ [({ source := 1, time := 3 } : Arrival)], accepts 0x11 x.source = false) ∧ accepts 0x11 4 = true := by decide

def manualWaiting : State :=
  let s := playing .waiting (freshContext loaded entryA stepA)
  { s with seq := { s.seq with mode := .manual } }

theorem test_witness_step :
    (commandable manualWaiting ∧ manualWaiting.seq.mode = .manual ∧ manualWaiting.seq.state = .waiting ∧
      manualWaiting.seq.context = some (freshContext loaded entryA stepA) ∧ stepA.delay ≠ 0) ∧
    (commandable loaded ∧ ¬(loaded.seq.mode = .manual ∧ loaded.seq.state = .waiting)) := by decide

theorem test_witness_due_instant :
    due.inReset = false ∧ due.seq.state = .delaying ∧ due.seq.context = some begunA ∧ stepA.wf = true ∧
      stepA.delay.toNat ≤ (due.timebase.tsc - begunA.reference).toNat ∧ manualPulses due = false ∧ begunA.skipped = 0 ∧
      stepPulses due = false ∧ due.policy.guardPolicy = .skip ∧
      ∀ e ∈ stepA.channels, entryCost due e ≤ (due.channels.channel[e.channel]).credit.toNat := by decide

/-- The step A due with channel 0 one credit short of its cost of 132. -/
def shortDue (g : GuardPolicy) : State :=
  setChannel 0 { due.channels.channel[0] with credit := 131 } { due with policy := { due.policy with guardPolicy := g } }

theorem test_witness_short_credit :
    ∀ g : GuardPolicy, (g = .hold ∨ g = .abort) →
      (shortDue g).inReset = false ∧ (shortDue g).seq.state = .delaying ∧ (shortDue g).seq.context = some begunA ∧
      begunA.begun = true ∧ begunA.exposureStart = none ∧ begunA.creditShort = false ∧ begunA.skipped = 0 ∧
      stepA.delay.toNat ≤ ((shortDue g).timebase.tsc - begunA.reference).toNat ∧ manualPulses (shortDue g) = false ∧
      { channel := 0, level := 900, width := 150 } ∈ stepA.channels ∧
      ((shortDue g).channels.channel[0]).locked = false ∧ ((shortDue g).channels.channel[0]).enabled = true ∧
      entryCost (shortDue g) { channel := 0, level := 900, width := 150 } ≤ ((shortDue g).channels.channel[0]).ceiling.toNat ∧
      ((shortDue g).channels.channel[0]).credit.toNat < entryCost (shortDue g) { channel := 0, level := 900, width := 150 } ∧
      (shortDue g).policy.guardPolicy = g ∧ (shortDue g).policy.recordPolicy = .hold ∧
      (shortDue g).tables.commitPending = false := by
  intro g
  cases g <;> decide

/-- The last step of the program settling with its gap run. -/
def lastSettled (mode : RunMode) : State :=
  let c := { freshContext (atStepB loaded) entryB stepB with begun := true, exposureStart := some 5, gapStart := some 5 }
  let s := playing .settling c
  { s with seq := { s.seq with position := 1, mode := mode }, timebase := { s.timebase with tsc := 5 } }

theorem test_witness_completion :
    (∃ c, settled.seq.context = some c ∧ c.gapStart = some 155 ∧
      c.record.gap.toNat ≤ (settled.timebase.tsc - 155).toNat ∧ settled.seq.repetition < c.entry.count) ∧
    settled.inReset = false ∧ settled.seq.state = .settling ∧ settled.policy.recordPolicy = .hold ∧
    settled.seq.pauseRequest = false := ⟨⟨_, rfl, by decide⟩, by decide⟩

/-- The step A's last repetition settling, with PAUSE latched. -/
def pausing : State := { settled with seq := { settled.seq with repetition := 2, pauseRequest := true } }

theorem test_witness_completion_pauses :
    (∃ c, pausing.seq.context = some c ∧ c.gapStart = some 155 ∧
      c.record.gap.toNat ≤ (pausing.timebase.tsc - 155).toNat ∧ c.entry.count ≤ pausing.seq.repetition) ∧
    pausing.inReset = false ∧ pausing.seq.state = .settling ∧ pausing.policy.recordPolicy = .hold ∧
    pausing.seq.position + 1 < (activeBank pausing).order.length ∧ pausing.seq.pauseRequest = true :=
  ⟨⟨_, rfl, by decide⟩, by decide⟩

theorem test_witness_pass_boundary :
    (∃ c, (lastSettled .onePass).seq.context = some c ∧ c.gapStart = some 5 ∧
      c.record.gap.toNat ≤ ((lastSettled .onePass).timebase.tsc - 5).toNat ∧
      c.entry.count ≤ (lastSettled .onePass).seq.repetition) ∧
    (lastSettled .onePass).inReset = false ∧ (lastSettled .onePass).seq.state = .settling ∧
    (lastSettled .onePass).policy.recordPolicy = .hold ∧
    (activeBank (lastSettled .onePass)).order.length ≤ (lastSettled .onePass).seq.position + 1 ∧
    (lastSettled .onePass).seq.mode = .onePass ∧ (lastSettled .onePass).port.kind ≠ .read := ⟨⟨_, rfl, by decide⟩, by decide⟩

theorem test_witness_stop :
    (commandable ready ∧ ready.seq.state = .stopped) ∧
    (commandable exposing ∧ exposing.seq.state ≠ .stopped ∧ exposing.policy.recordPolicy = .hold ∧
      exposing.port.kind ≠ .read ∧ (exposing.seq.context.map (·.begun)) = some true) ∧
    (commandable manualWaiting ∧ manualWaiting.seq.state ≠ .stopped ∧ manualWaiting.policy.recordPolicy = .hold ∧
      manualWaiting.port.kind ≠ .read ∧ (manualWaiting.seq.context.map (·.begun)) = some false) ∧
    ((inState .paused loaded).seq.state ≠ .stopped ∧ (inState .paused loaded).seq.context = none) := by decide

def heldForSpace : State :=
  let s := recordsQueued 32 (playing .held (freshContext loaded entryA stepA))
  { s with
      seq := { s.seq with hold := .recordSpace, holdTimer := some 0 }
      records := { s.records with reserved := false, waitingRequest := true } }
def heldForCredit (credit : Word) : State :=
  let s := playing .held { begunA with creditShort := true }
  setChannel 0 { s.channels.channel[0] with credit := credit, rate := 100 }
    { s with seq := { s.seq with hold := .credit, holdTimer := some 0 }
             policy := { s.policy with guardPolicy := .hold } }

theorem test_witness_pause :
    (commandable manualWaiting ∧ manualWaiting.seq.state = .waiting) ∧
    (commandable heldForSpace ∧ heldForSpace.seq.state = .held ∧ heldForSpace.seq.hold = .recordSpace) ∧
    (commandable exposing ∧ begunState exposing.seq) ∧
    (commandable (inState .paused loaded) ∧ (inState .paused loaded).seq.state = .paused) := by decide

theorem test_witness_hold_timeout :
    (heldForSpace.inReset = false ∧ heldForSpace.seq.state = .held ∧ heldForSpace.seq.holdTimer = some 0 ∧
      heldForSpace.seq.context = some (freshContext loaded entryA stepA) ∧ heldForSpace.policy.recordPolicy = .hold ∧
      heldForSpace.tables.commitPending = false) ∧
    ((heldForCredit 31).inReset = false ∧ (heldForCredit 31).seq.state = .held ∧ (heldForCredit 31).seq.holdTimer = some 0 ∧
      (heldForCredit 31).seq.context = some { begunA with creditShort := true } ∧ begunA.begun = true ∧
      begunA.exposureStart = none ∧ (heldForCredit 31).policy.recordPolicy = .hold ∧
      (heldForCredit 31).tables.commitPending = false) := by decide

theorem test_witness_arrivals :
    commandable loaded ∧ loaded.seq.state = .stopped ∧ manualWaiting.seq.mode = .manual ∧
    ((queued (List.replicate 8 { source := 0, time := 0 }) exposing).seq.state ≠ .stopped ∧
      exposing.seq.mode ≠ .manual ∧ exposing.policy.acceptance = .queueAny ∧
      8 ≤ (queued (List.replicate 8 { source := 0, time := 0 }) exposing).triggers.queue.length) ∧
    (exposing.seq.state ≠ .waiting ∧ (queued (List.replicate 7 { source := 0, time := 0 }) exposing).triggers.queue.length < 8) ∧
    ((playing .waiting (freshContext loaded entryB stepB)).seq.state = .waiting ∧
      (playing .waiting (freshContext loaded entryB stepB)).seq.mode ≠ .manual ∧
      stepB.advance = .trigger 0x11 ∧ accepts 0x11 4 = true ∧
      (playing .waiting (freshContext loaded entryB stepB)).triggers.queue.length < 8) := by decide

/-- Input 3 with an edge select, a holdoff, and a window open until 1000. -/
def sensing (select : EdgeSelect) (window : Option Time) : State :=
  { ready with triggers := { ready.triggers with
      inputs := ready.triggers.inputs.set 3 { select := select, holdoff := 65535, level := false, window := window } } }

theorem test_witness_edges :
    (sensing .off none).inReset = false ∧ true ≠ ((sensing .off none).triggers.inputs[3]).level ∧
    ((sensing .off none).triggers.inputs[3]).select = .off ∧
    (((sensing .rising (some 1)).triggers.inputs[3]).select = .rising ∧
      ((sensing .rising (some 1)).triggers.inputs[3]).window = some 1 ∧
      hasCome (sensing .rising (some 1)).timebase.tsc 1 = false) ∧
    (((sensing .both (some 0)).triggers.inputs[3]).select = .both ∧
      ((sensing .both (some 0)).triggers.inputs[3]).window = some 0 ∧
      hasCome (sensing .both (some 0)).timebase.tsc 0 = true) := by decide

theorem test_witness_millisecond :
    ((withMs heldForSpace).inReset = false ∧ (withMs heldForSpace).timebase.msDue = true ∧
      (withMs heldForSpace).seq.hold = .recordSpace) ∧
    (∀ credit : Word, credit = 31 ∨ credit = 32 →
      (withMs (heldForCredit credit)).inReset = false ∧ (withMs (heldForCredit credit)).timebase.msDue = true ∧
      (withMs (heldForCredit credit)).seq.state = .held ∧ (withMs (heldForCredit credit)).seq.hold = .credit ∧
      (withMs (heldForCredit credit)).seq.context = some { begunA with creditShort := true } ∧
      (withMs (heldForCredit credit)).policy.guardPolicy = .hold) ∧
    (∃ e ∈ stepA.channels, inMask begunA.skipped e.channel = false ∧
      ((heldForCredit 31).channels.channel[e.channel]).locked = false ∧
      ((heldForCredit 31).channels.channel[e.channel]).enabled = true ∧
      entryCost (heldForCredit 31) e ≤ ((heldForCredit 31).channels.channel[e.channel]).ceiling.toNat ∧
      ((heldForCredit 31).channels.channel[e.channel]).credit.toNat +
        ((heldForCredit 31).channels.channel[e.channel]).rate.toNat < entryCost (heldForCredit 31) e) ∧
    (∀ e ∈ stepA.channels, entryCost (heldForCredit 32) e ≤
      ((heldForCredit 32).channels.channel[e.channel]).credit.toNat +
        ((heldForCredit 32).channels.channel[e.channel]).rate.toNat) := by
  refine ⟨by decide, ?_, by decide, by decide⟩
  rintro credit (rfl | rfl) <;> decide

theorem test_witness_cost :
    (1 ≤ 1023 ∧ 1023 ≤ 1023 ∧ 1 ≤ 256 ∧ 256 ≤ 256 ∧ 1 ≤ 65535 ∧ 65535 ≤ 65535) ∧
    effectiveLevel 1 1 = max 1 (1 * 1 / 256) := by decide

theorem test_witness_ch_enable :
    exposing.inReset = false ∧ (exposing.seq.state = .exposing → exposing.seq.context.isSome = true) ∧
    (exposing.seq.context.map (·.begun)) = some true ∧ bit 0x00FE 0 = false := by decide

/-- Gates 0 and 7 open. -/
def twoLit : State := setChannel 7 { exposing.channels.channel[7] with gate := some { level := 1, closing := 200 } } exposing

theorem test_witness_gate_width :
    (∀ s ∈ [exposing, twoLit], s.inReset = false ∧ s.seq.state = .exposing ∧ (s.seq.context.map (·.gapStart)) = some none ∧
      (s.channels.channel[0]).gate = some { level := 900, closing := 155 } ∧ hasCome s.timebase.tsc 155 = true) ∧
    (∃ m : Fin 8, m ≠ 0 ∧ (twoLit.channels.channel[m]).gate.isSome = true) ∧
    (∀ m : Fin 8, m ≠ 0 → (exposing.channels.channel[m]).gate = none) := by decide

def stopOnFault (s : State) : State := { s with policy := { s.policy with faultPolicy := .stop } }
def lockedSeven : State := setChannel 7 { ready.channels.channel[7] with locked := true } ready

theorem test_witness_fault :
    (ready.inReset = false ∧ (ready.channels.channel[7]).locked = false ∧ ready.seq.state = .stopped ∧
      ready.policy.faultPolicy = .continue ∧ stepBegun ready = false) ∧
    (exposing.inReset = false ∧ (exposing.channels.channel[0]).locked = false ∧
      exposing.policy.faultPolicy = .continue ∧ (exposing.seq.context.map fun c => (c.begun, c.gapStart)) = some (true, none)) ∧
    ((stopOnFault exposing).seq.state ≠ .stopped ∧ (stopOnFault exposing).policy.faultPolicy = .stop ∧
      (stopOnFault exposing).policy.recordPolicy = .hold ∧ (stopOnFault exposing).tables.commitPending = false) ∧
    (lockedSeven.inReset = false ∧ (lockedSeven.channels.channel[7]).locked = true) := by decide

theorem test_witness_unlock :
    (commandable (withArgs 8 0 0 ready) ∧ 7 < ((withArgs 8 0 0 ready).cmd.arg[0]).toNat) ∧
    (commandable (withArgs 7 0 0 lockedSeven) ∧ ((withArgs 7 0 0 lockedSeven).cmd.arg[0]).toNat = (7 : Fin 8).val) := by
  decide

theorem test_witness_pulse_sync :
    (commandable (withArgs 4 1 0 ready) ∧ 3 < ((withArgs 4 1 0 ready).cmd.arg[0]).toNat) ∧
    16383 < ((withArgs 3 16384 0 ready).cmd.arg[1]).toNat ∧
    (commandable (withArgs 3 16383 0 ready) ∧ ((withArgs 3 16383 0 ready).cmd.arg[0]).toNat = (3 : Fin 4).val ∧
      (withArgs 3 16383 0 ready).cmd.arg[1] ≠ 0 ∧ ((withArgs 3 16383 0 ready).cmd.arg[1]).toNat ≤ 16383) := by decide

def pulsing (p : Pulse) (s : State) : State := setOutput 3 { s.syncs[3] with pulse := p } s

theorem test_witness_sync_config :
    (pulsing (.active .stepPulse 200) exposing).inReset = false ∧
    (pulsing (.active .stepPulse 200) exposing).seq.state ≠ .delaying ∧
    (pulsing (.active .stepPulse 200) exposing).seq.state ≠ .settling ∧ exposing.seq.context.isSome = true := by decide

theorem test_witness_sync_pulses :
    (((pulsing (.scheduled 155 255) exposing).syncs[3]).pulse = .scheduled 155 255 ∧ hasCome exposing.timebase.tsc 155 = true) ∧
    (((pulsing (.active .stepPulse 155) exposing).syncs[3]).pulse = .active .stepPulse 155 ∧
      (exposing.seq.context.map (·.gapStart)) = some none) ∧
    (((pulsing (.active .manual 0) ready).syncs[3]).pulse = .active .manual 0 ∧ hasCome ready.timebase.tsc 0 = true ∧
      ready.seq.state ≠ .delaying) ∧ exposing.inReset = false ∧ ready.inReset = false := by decide

theorem test_witness_rec9 :
    ((recordsQueued 1 ready).inReset = false ∧ (recordsQueued 1 ready).records.queue = someRecord :: [] ∧
      (recordsQueued 1 ready).records.waitingRequest = false) ∧ ready.records.queue = [] := by decide

theorem test_witness_freed_place :
    (commandable heldForSpace ∧ heldForSpace.records.queue = someRecord :: List.replicate 31 someRecord ∧
      heldForSpace.records.waitingRequest = true ∧
      heldForSpace.seq.context = some (freshContext loaded entryA stepA)) ∧
    (commandable ready ∧ ready.records.waitingRequest = false) := by decide

def dropping (s : State) : State := { s with policy := { s.policy with recordPolicy := .drop } }

theorem test_witness_emission :
    ready.policy.recordPolicy = .hold ∧
    ((dropping (recordsQueued 31 ready)).policy.recordPolicy = .drop ∧ (recordsQueued 31 ready).records.queue.length < 32) ∧
    32 ≤ (dropping (recordsQueued 32 ready)).records.queue.length := by decide

theorem test_witness_open :
    (commandable (withArgs 0 127 0 ready) ∧ (withArgs 0 127 0 ready).port.kind = .none ∧
      (withArgs 0 127 0 ready).tables.commitPending = false ∧ loadInFlight (withArgs 0 127 0 ready) = false ∧
      saveOfStagingInFlight (withArgs 0 127 0 ready) = false ∧ (withArgs 0 127 0 ready).cmd.arg[0] = 0 ∧
      ((withArgs 0 127 0 ready).cmd.arg[1]).toNat ≤ 127) ∧
    ((withArgs 1 2 0 staged).cmd.arg[0] = 1 ∧ ((withArgs 1 2 0 staged).cmd.arg[1]).toNat ≤ 511 ∧
      ((withArgs 1 2 0 staged).cmd.arg[1]).toNat ≤ (stagingBank (withArgs 1 2 0 staged)).order.length) ∧
    (((withArgs 1 511 1 ready).cmd.arg[2]).toNat ≤ 1 ∧ (withArgs 1 511 1 ready).cmd.arg[0] = 1 ∧
      ((withArgs 1 511 1 ready).cmd.arg[1]).toNat ≤ 511 ∧ loadInFlight (withArgs 1 511 1 ready) = false) := by decide

theorem test_witness_close :
    (commandable ready ∧ ready.port.kind = .none) ∧
    (commandable (loading .order 2 staged) ∧ (loading .order 2 staged).port.kind ≠ .none) := by decide

theorem test_witness_streamed :
    (loading .steps 127 ready).inReset = false ∧ workedRecord.wf = true ∧ (loading .steps 127 ready).port.kind = .load ∧
    (loading .steps 127 ready).port.table = .steps ∧ (loading .steps 127 ready).port.next = (127 : Fin 128).val ∧
    (loading .steps 127 ready).port.wordPos = 0 ∧ (loading .steps 127 ready).port.assembly = [] := by decide

theorem test_witness_step_load_words :
    ((loading .steps 127 ready).port.next < 128 ∧ (loading .steps 127 ready).port.assembly = [] ∧
      (0x0084 : Word).toNat / 16 % 16 ≤ 8 ∧ (0x0084 : Word).toNat % 8 ≤ 4) ∧
    ¬((0x0090 : Word).toNat / 16 % 16 ≤ 8 ∧ (0x0090 : Word).toNat % 8 ≤ 4) ∧
    (([] : List Word).length + 2 < 4 + 2 * ((0 : Word).toNat / 16 % 16) + 2 * ((0 : Word).toNat % 8)) ∧
    (4 + 2 * ((0 : Word).toNat / 16 % 16) + 2 * ((0 : Word).toNat % 8) ≤ ([0x8000, 0] : List Word).length + 2 ∧
      (match decodeRecord (0 :: [0x8000, 0] ++ [0]) with
        | .error e => some e
        | .ok _ => none) = some PortError.badField) ∧
    (128 ≤ (loading .steps 128 ready).port.next ∧ (loading .steps 128 ready).port.kind = .load ∧
      (loading .steps 128 ready).port.table = .steps ∧ (loading .steps 128 ready).inReset = false) := by decide

theorem test_witness_order_words :
    (loading .order 1 staged).inReset = false ∧ (loading .order 1 staged).port.kind = .load ∧
    (loading .order 1 staged).port.table = .order ∧ (loading .order 1 staged).port.next < 512 ∧
    (loading .order 1 staged).port.next < (stagingBank (loading .order 1 staged)).order.length ∧
    (stagingBank (loading .order 2 staged)).order.length ≤ (loading .order 2 staged).port.next := by decide

theorem test_witness_tp_read :
    ((reading .active loaded).port.kind = .read ∧ (reading .active loaded).port.table = .order ∧
      (reading .active loaded).port.next < 512 ∧ (reading .active loaded).inReset = false) ∧
    (stepImage (loaded.tables.bank (loaded.tables.ofRole .active)).steps[(0 : Fin 128)])[7]? = some 0 ∧
    (stepImage (loaded.tables.bank (loaded.tables.ofRole .active)).steps[(127 : Fin 128)])[0]? = some 0xFFFF ∧
    ready.port.kind = .none ∧ (loading .steps 0 ready).port.kind = .load := by decide

def readingSteps : State :=
  { reading .active loaded with port := { (reading .active loaded).port with table := .steps, next := 127 } }
def assembling : State :=
  { loading .steps 127 ready with port := { (loading .steps 127 ready).port with assembly := [0, 0x8000, 0], wordPos := 3 } }

/-- A step read session at the first word of an empty entry, and record assemblies at their boundaries. -/
theorem test_witness_tp_step_words :
    (readingSteps.inReset = false ∧ readingSteps.port.kind = .read ∧ readingSteps.port.table = .steps ∧
      readingSteps.port.next = (127 : Fin 128).val ∧
      (stepImage (readingSteps.tables.bank (readingSteps.tables.ofRole readingSteps.port.bank)).steps[(127 : Fin 128)])[
        readingSteps.port.wordPos]? = some 0xFFFF) ∧
    (assembling.inReset = false ∧ assembling.port.kind = .load ∧ assembling.port.table = .steps ∧
      assembling.port.next < 128 ∧ assembling.port.assembly = 0 :: [0x8000, 0]) := by decide

/-- The clauses under no more than a released reset line, and the invariants' steps. -/
theorem test_witness_released : ready.inReset = false ∧ exposing.inReset = false := by decide

/-- A directory with one VALID slot, of the largest generation. -/
def oneSlot : State :=
  { ready with store := { ready.store with
      directory := ready.store.directory.set 2 { state := .valid, label := 0x20, generation := 0xFFFFFFFF } } }

theorem test_witness_store_start :
    (commandable (withArgs 5 1 9 oneSlot) ∧ oneSlot.store.job = .idle ∧ oneSlot.tables.commitPending = false ∧
      ((withArgs 5 1 9 oneSlot).cmd.arg[0]).toNat = (5 : Fin 6).val ∧ ((withArgs 5 1 9 oneSlot).cmd.arg[1]).toNat ≤ 1 ∧
      oneSlot.tables.incomplete = false ∧ loadSession oneSlot = false ∧
      (∀ i : Fin 6, (oneSlot.store.directory[i]).generation.toNat ≤ (oneSlot.store.directory[(2 : Fin 6)]).generation.toNat) ∧
      (0xFFFFFFFF : BitVec 32).toNat = min 4294967295 ((oneSlot.store.directory[(2 : Fin 6)]).generation.toNat + 1)) ∧
    ((oneSlot.store.directory[(2 : Fin 6)]).state = .valid ∧ ((withArgs 2 0 0 oneSlot).cmd.arg[0]).toNat = (2 : Fin 6).val ∧
      ¬(oneSlot.port.kind = .read ∧ oneSlot.port.bank = .staging)) ∧
    (((withArgs 7 2 0 oneSlot).cmd.arg[0]).toNat = bootSlotCode none ∧
      ((withArgs 7 2 0 oneSlot).cmd.arg[1]).toNat = autorunCode .continuous) ∧
    (commandable saving ∧ saving.store.job ≠ .idle) := by decide

theorem test_witness_store_refused :
    (commandable (withArgs 5 1 0 saving) ∧ saving.store.job ≠ .idle ∧ ((withArgs 5 1 0 saving).cmd.arg[0]).toNat ≤ 5 ∧
      ((withArgs 5 1 0 saving).cmd.arg[1]).toNat ≤ 1) ∧
    (commandable ready ∧ ready.store.job = .idle ∧ (ready.store.directory[(0 : Fin 6)]).state = .empty ∧
      (ready.cmd.arg[0]).toNat = (0 : Fin 6).val) ∧
    (setDirectory 0 (plainEntry .damaged) ready).store.directory[(0 : Fin 6)] = plainEntry .damaged := by decide

def withJob (j : StoreJob) (s : State) : State := { s with store := { s.store with job := j } }
def aborting (s : State) : State := { s with store := { s.store with abortPending := true } }

theorem test_witness_erase :
    (∀ sector failed : Nat, sector ≤ 8 →
      (withJob (.erase 0 sector failed) ready).inReset = false ∧
      (withJob (.erase 0 sector failed) ready).store.job = .erase 0 sector failed ∧
      (withJob (.erase 0 sector failed) ready).store.quiet = false) ∧
    (aborting (withJob (.erase 0 8 2) ready)).store.abortPending = true := ⟨fun _ _ _ => ⟨rfl, rfl, rfl⟩, rfl⟩

theorem test_witness_program :
    (saving.inReset = false ∧ saving.store.job = .save 5 .staging .b 7 1 (.programming 0) ∧ saving.store.quiet = false ∧
      saving.store.abortPending = false ∧ (aborting saving).store.abortPending = true) ∧
    ((headerBody program 7 1).wellFormed = true ∧ (headerBody program 7 1).label = 7 ∧ (headerBody program 7 1).generation = 1 ∧
      (headerBody program 7 1).length = word (saving.tables.bank .b).order.length ∧
      (headerBody program 7 1).definedSteps = word (saving.tables.bank .b).definedSteps) ∧
    (setHeader 5 (.written (headerBody program 7 1)) saving).store.array.headers[(5 : Fin 6)] =
      .written (headerBody program 7 1) ∧
    (withJob (.setStartup none .off 0 .programming) ready).store.job = .setStartup none .off 0 .programming := by decide

theorem program_wf : program.wf := by
  refine ⟨?_, by decide⟩
  intro i r hr
  simp only [program, Fin.getElem_fin, Vector.getElem_set] at hr
  split at hr
  · obtain rfl := Option.some.inj hr
    decide
  · split at hr
    · obtain rfl := Option.some.inj hr
      decide
    · simp at hr

theorem slice_of_length (a : Nat) (ws : List Word) (h : ws.length = 4096) :
    (Memory.program [] a ws).slice a 4096 = ws := by
  have h' := Memory.slice_program [] a ws
  rwa [h] at h'

/-- A LOAD of slot 5, which holds the program, just accepted. -/
def loadingProgram : State :=
  { ready with store := { ready.store with
      job := .load (freshLoad 5)
      array :=
        { headers := ready.store.array.headers.set 5
            (.written { headerBody program 7 1 with check := some (slotCheck program 7 1), commit := Config.commitWord })
          images := Memory.program [] (4096 * (5 : Fin 6).val) (imageWords program)
          startups := ready.store.array.startups } } }

theorem test_witness_load :
    loadingProgram.inReset = false ∧ loadingProgram.store.boot = .done ∧ program.wf ∧
      loadingProgram.store.job = .load (freshLoad 5) ∧ loadingProgram.store.abortPending = false ∧
      loadingProgram.store.quiet = false ∧
      loadingProgram.store.array.headers[(5 : Fin 6)] =
        .written { headerBody program 7 1 with check := some (slotCheck program 7 1), commit := Config.commitWord } ∧
      loadingProgram.store.array.images.slice (4096 * (5 : Fin 6).val) 4096 = imageWords program := by
  refine ⟨rfl, rfl, program_wf, rfl, rfl, rfl, by simp [loadingProgram], ?_⟩
  exact slice_of_length _ _ (length_imageWords program_wf)

def scanning (p : BootPhase) : State := { State.reset with store := { State.reset.store with boot := p } }

theorem test_witness_scan :
    ((scanning (.scanHeader 5)).inReset = false ∧ (scanning (.scanHeader 5)).store.boot = .scanHeader 5) ∧
    ((scanning (.scanImage 5 (headerBody Bank.empty 1 1) 7 [])).store.boot = .scanImage 5 (headerBody Bank.empty 1 1) 7 []) ∧
    ((scanning (.scanStartup55 none)).store.boot = .scanStartup55 none ∧
      ((scanning (.scanStartup55 none)).store.array.startups[1]).judge = none) := by decide

theorem test_witness_stored_word :
    (loadingProgram.store.array.headers[(5 : Fin 6)] =
        .written { headerBody program 7 1 with check := some (slotCheck program 7 1), commit := Config.commitWord } ∧
      (HeaderSector.written { headerBody program 7 1 with
        check := some (slotCheck program 7 1), commit := Config.commitWord }).condition = .committed) ∧
    (StartupSector.judge (startupSector { generation := 6, bootSlot := some 2, autorun := .continuous }) =
      some { generation := 6, bootSlot := some 2, autorun := .continuous }) ∧
    (1 : Word) ≠ 0 ∧ State.reset.store.array.headers[(0 : Fin 6)] = .blank ∧
    State.reset.store.array.startups[(0 : Fin 2)] = .blank :=
  ⟨⟨by simp [loadingProgram], by decide⟩, by decide⟩

/-- The check value matches the image that it was computed from. -/
theorem test_witness_stored_check :
    HeaderWords.matchesImage { headerBody program 7 1 with check := some (slotCheck program 7 1) } (imageWords program) = true := by
  simp [HeaderWords.matchesImage, slotCheck, headerBody]

theorem test_witness_writes :
    ready.inReset = false ∧ ready.seq.state = .stopped ∧ exposing.seq.state ≠ .stopped ∧ (0x0013 : Word).toNat % 4 = 3 ∧
      (0x001E : Word).toNat % 4 < 3 := by decide

theorem test_witness_resets :
    commandable exposing ∧ ready.store.job = .idle ∧
    (asserted.inReset = true ∧ ∀ i : Fin 8, (asserted.channels.channel[i]).faultLine = false) ∧
    ((setFaultLine 7 true asserted).inReset = true ∧ asserted.seq.state = .stopped ∧ asserted.seq.context = none ∧
      ∀ i : Fin 8, ((setFaultLine 7 true asserted).channels.channel[i]).faultLine = true ↔ i = 7) := by decide

/-! ### Witnesses of the clauses on begun steps, boundaries, cuts and the store's steps -/

/-- A step of no length, whose channel is OFF. -/
def timelessStep : StepRecord :=
  { tag := 3, advance := .immediate, delay := 0, gap := 0, channels := [{ channel := 7, level := 1, width := 1 }], syncs := [] }
def timelessEntry : OrderEntry := decodeOrder 0

/-- A CONTINUOUS run of that step under a record policy, with its gap run. -/
def timeless (policy : RecordPolicy) : State :=
  let c := { freshContext loaded timelessEntry timelessStep with begun := true, exposureStart := some 5, gapStart := some 5 }
  let s := playing .settling c
  { s with
      tables := { s.tables with
        bankA := { steps := (Vector.replicate 128 none).set 0 (some timelessStep), order := [timelessEntry] } }
      policy := { s.policy with recordPolicy := policy }
      timebase := { s.timebase with tsc := 5 } }

/-- Such a run with a whole pass behind it in this microsecond. -/
def instantRun : State :=
  let s := timeless .drop
  { s with timebase := { s.timebase with
      completions := passSteps (activeBank s) + Config.freeSteps s.timebase.tsc.toNat } }

/-- R55: such a run does not stop the TSC. -/
theorem test_instant_run_lets_time_pass :
    dueEvents instantRun = [.gapEnd] ∧ endlessInNoTime instantRun ∧ instantSpent instantRun = true ∧
      instantRun.pending = [] ∧ instantRun.inReset = false := by
  refine ⟨by decide, by decide, ?_, rfl, rfl⟩
  have h : dueEvents instantRun = [.gapEnd] := by decide
  have hr : runsInNoTime instantRun = true := by decide
  simp only [instantSpent, h, hr, decide_true, Bool.true_and]
  exact decide_eq_true (Nat.le_refl _)

/-- R39: under HOLD the run ends HELD at the latest after 32 records, a step that waits for a trigger or lights a channel takes
its time, and no gap's end waits. -/
theorem test_finite_run_waits_for_nothing :
    runsInNoTime (timeless .hold) = false ∧ playsInNoTime (timeless .drop) stepB = false ∧
      playsInNoTime (timeless .drop)
        { timelessStep with channels := [{ channel := 0, level := 1, width := 1 }] } = false := by decide

/-- The program with a delay of 0 in its first step. -/
def undelayed : State :=
  { loaded with tables := { loaded.tables with
      bankA := { program with steps := program.steps.set 0 (some { stepA with delay := 0 }) } } }
/-- The step B, of delay 0, waiting for STEP. -/
def manualB : State := setContext (freshContext loaded entryB stepB) manualWaiting

theorem test_witness_begun_due :
    (undelayed.inReset = false ∧ atCursor undelayed = some (entryA, { stepA with delay := 0 }) ∧
      undelayed.seq.mode ≠ .manual ∧ placesTaken undelayed < 32) ∧
    (due.inReset = false ∧ stepA.delay.toNat ≤ (due.timebase.tsc - 0).toNat ∧
      (due.timebase.tsc - 1).toNat < stepA.delay.toNat) ∧
    (commandable manualB ∧ manualB.seq.mode = .manual ∧ manualB.seq.state = .waiting ∧
      manualB.seq.context = some (freshContext loaded entryB stepB) ∧ stepB.delay = 0) := by decide

def requesting (passes : Word) (s : State) : State := { s with seq := { s.seq with passesRequested := passes } }

theorem test_witness_pass_goes_on :
    (word (min 65535 ((lastSettled .passes).seq.passesTaken.toNat + 1)) =
        (requesting 1 (lastSettled .passes)).seq.passesRequested ∧
      word (min 65535 ((lastSettled .passes).seq.passesTaken.toNat + 1)) ≠
        (requesting 2 (lastSettled .passes)).seq.passesRequested) ∧
    (lastSettled .continuous).seq.mode = .continuous ∧ (lastSettled .manual).seq.mode = .manual ∧
    entryB.haltAfter = true ∧ entryA.haltAfter = false := by decide

theorem test_witness_fault_stops_waiting_run :
    ∀ s ∈ [stopOnFault manualWaiting, stopOnFault heldForSpace, stopOnFault (inState .paused loaded)],
      s.inReset = false ∧ (s.channels.channel[(7 : Fin 8)]).locked = false ∧ s.seq.state ≠ .stopped ∧
      s.policy.faultPolicy = .stop ∧ stepBegun s = false ∧ s.tables.commitPending = false := by decide

/-- The step A with its due instant reached and a manual pulse in its way. -/
def waitingForPulse : State := pulsing (.active .manual 200) (setContext { begunA with dueReached := true } due)
/-- The step A settling with a step pulse left. -/
def pulseLeft : State := pulsing (.active .stepPulse 200) (setContext begunA settled)

theorem test_witness_sync_config_waits :
    (waitingForPulse.inReset = false ∧ waitingForPulse.seq.state = .delaying ∧
      waitingForPulse.seq.context = some { begunA with dueReached := true } ∧
      stepA.delay.toNat ≤ (waitingForPulse.timebase.tsc - begunA.reference).toNat ∧ stepPulses waitingForPulse = false) ∧
    (pulseLeft.inReset = false ∧ pulseLeft.seq.state = .settling ∧ (pulseLeft.seq.context.map (·.gapStart)) = some none) ∧
    (due.seq.state = .delaying ∧ begunA.dueReached = false) := by decide

theorem test_witness_done_record :
    settled.inReset = false ∧ settled.seq.state = .settling ∧
    (∃ c, settled.seq.context = some c ∧ c.exposureStart = some 5 ∧ c.gapStart = some 155 ∧
      c.record.gap.toNat ≤ (settled.timebase.tsc - 155).toNat) ∧ begunA.exposureStart = none :=
  ⟨rfl, rfl, ⟨_, rfl, by decide⟩, rfl⟩

/-- R135: each check of a record with one channel and one sync entry, and of one with two of each. -/
theorem test_witness_record_checks :
    (¬advanceChecks 0x8000 ∧ ¬advanceChecks 0x4020 ∧ advanceChecks 0x4001 ∧ advanceChecks 0x001F) ∧
    (¬channelChecks [0xE000, 1, 0, 0] 0 ∧ ¬channelChecks [0xE3FF, 0, 0, 0] 0 ∧ channelChecks [0xE3FF, 0xFFFF, 0, 0] 0) ∧
    (channelIsNew [0xE001, 1, 0xC001, 1] 1 ∧ ¬channelIsNew [0xE001, 1, 0xE002, 1] 1) ∧
    (¬syncChecks [0xE001, 1, 0xC000, 0] 1 0 ∧ syncChecks [0xE001, 1, 0xFFFF, 0] 1 0) ∧
    (syncIsNew [0xC001, 1, 0x8001, 1] 0 1 ∧ ¬syncIsNew [0xC001, 1, 0xC002, 1] 0 1) := by decide

theorem test_witness_erase_steps :
    (∀ sector failed : Nat,
      (withJob (.save 5 .staging .b 7 1 (.erasing sector failed)) ready).store.job =
        .save 5 .staging .b 7 1 (.erasing sector failed) ∧ erasing 5 sector (withJob (.erase 5 sector failed) ready)) ∧
    (∀ failed : Nat, (withJob (.setStartup none .off 1 (.erasing failed)) ready).store.job =
      .setStartup none .off 1 (.erasing failed)) ∧ ready.store.quiet = false :=
  ⟨fun _ failed => ⟨rfl, .inl ⟨failed, rfl⟩⟩, fun _ => rfl, rfl⟩

/-- R164: the cut of a SET_STARTUP at its copy, and of a SAVE at its commit word, may leave either. -/
theorem test_witness_cut_off :
    (withJob (.save 5 .staging .b 7 1 (.programming 9)) ready).store.job = .save 5 .staging .b 7 1 (.programming 9) ∧
    (withJob (.setStartup none .off 1 .programming) ready).store.job = .setStartup none .off 1 .programming ∧
    loadInFlight (withJob (.load (freshLoad 0)) ready) = true := by decide

/-- The boot's load of slot 5 at its first sector. -/
def bootLoading : State :=
  { loadingProgram with store := { loadingProgram.store with job := .idle, boot := .load (freshLoad 5) } }

theorem test_witness_boot_load :
    (bootLoading.inReset = false ∧ program.wf ∧ bootLoading.store.boot = .load (freshLoad 5) ∧
      holdsBank 5 program 7 1 bootLoading) ∧ program.validate = none ∧ gapped.validate ≠ none ∧ bootLoading.port.kind ≠ .read :=
  ⟨⟨rfl, program_wf, rfl, test_witness_load.2.2.2.2.2.2⟩, by decide⟩

theorem test_witness_boot_check_fails :
    HeaderWords.matchesImage (headerBody program 7 1) (bootLoading.store.array.images.slice (4096 * (5 : Fin 6).val) 4096)
      = false := rfl

theorem test_witness_boot_choice :
    (scanning (.scanImage 0 (headerBody Bank.empty 1 1) 0 [])).store.boot = .scanImage 0 (headerBody Bank.empty 1 1) 0 [] ∧
    (scanning .scanStartup54).store.boot = .scanStartup54 ∧
    (∀ slot : Fin 6, ∀ state ∈ [SlotState.empty, .damaged, .valid],
      ((setDirectory slot (plainEntry state) (scanning (.scanStartup55
        (some { generation := 0xFFFFFFFF, bootSlot := some slot, autorun := .onePass })))).store.directory[slot]).state = state) := by
  decide

/-- R146: a programmed header whose words have all changed to the erased value reads blank. -/
theorem test_changed_header_reads_blank :
    let w : HeaderWords :=
      { marker := 0xFFFF, label := 0xFFFF, generation := 0xFFFFFFFF, length := 0xFFFF, definedSteps := 0xFFFF, check := none,
        commit := 0xFFFF }
    (HeaderSector.written w).condition = .blank := by decide

/-! ### Witnesses of the clauses on completions, stops under DROP, sessions and the ends of store operations -/

/-- The record queue full under DROP, a commit pending, and a read session open. -/
def crowded (s : State) : State := dropping (recordsQueued 32 (pendingCommit (reading .active s)))
def latched (s : State) : State := { s with seq := { s.seq with pauseRequest := true } }
/-- The step A's last repetition settling. -/
def lastRepetition : State := { settled with seq := { settled.seq with repetition := 2 } }

theorem test_witness_completions :
    ∀ s ∈ [lastRepetition, latched settled, crowded lastRepetition, crowded (latched settled)],
      s.inReset = false ∧ s.seq.state = .settling ∧ (s.seq.context.map (·.gapStart)) = some (some 155) ∧
      stepA.gap.toNat ≤ (s.timebase.tsc - 155).toNat ∧ s.seq.position + 1 < (activeBank s).order.length ∧
      (s.seq.context.map fun c => (c.entry, c.record)) = some (entryA, stepA) ∧ entryA.haltAfter = false ∧
      (s.seq.repetition < entryA.count ↔ s.seq.repetition = 1) := by decide

/-- R41: after the last repetition of its entry the next position is entered. -/
theorem test_next_position :
    (after (exec .gapEnd lastRepetition)).seq.position = 1 ∧ (after (exec .gapEnd lastRepetition)).seq.repetition = 1 ∧
      (after (exec .gapEnd lastRepetition)).seq.state = .waiting := by decide

/-- R49: a latched request pauses with a repetition left. -/
theorem test_pause_with_repetition_left :
    (after (exec .gapEnd (latched settled))).seq.state = .paused ∧
      (after (exec .gapEnd (latched settled))).seq.repetition = 2 := by decide

theorem test_witness_crowded_ends :
    (crowded (lastSettled .onePass)).inReset = false ∧ (crowded (lastSettled .onePass)).seq.state = .settling ∧
    (activeBank (crowded (lastSettled .onePass))).order.length ≤ (crowded (lastSettled .onePass)).seq.position + 1 ∧
    (commandable (crowded exposing) ∧ (crowded exposing).seq.state ≠ .stopped ∧
      (crowded exposing).tables.commitPending = true ∧ (crowded exposing).port.kind = .read ∧
      (crowded exposing).policy.recordPolicy = .drop ∧ 32 ≤ (crowded exposing).records.queue.length) ∧
    ((crowded (heldForCredit 31)).seq.state = .held ∧ (crowded (heldForCredit 31)).seq.holdTimer = some 0) ∧
    (crowded (shortDue .abort)).seq.context = some begunA ∧ (crowded (stopOnFault exposing)).policy.faultPolicy = .stop := by
  decide

/-- R121, R142: a STOP with the queue full loses the record, and its swap ends the read session. -/
theorem test_crowded_stop :
    (after (exec .stop (crowded exposing))).counters.value[7] = 1 ∧
      (after (exec .stop (crowded exposing))).port.lastError = .sessionEnded ∧
      (after (exec .stop (crowded exposing))).status.flags =
        recordLostFlag ||| portErrorFlag ||| commitTakenFlag ||| seqStoppedFlag := by decide

/-- HELD with one count of the timer left and its millisecond event come. -/
def lastCount : State := withMs { heldForSpace with seq := { heldForSpace.seq with holdTimer := some 1 } }

theorem test_witness_last_count :
    lastCount.inReset = false ∧ lastCount.seq.state = .held ∧ lastCount.seq.holdTimer = some 1 ∧
      lastCount.timebase.msDue = true ∧ lastCount.seq.context = some (freshContext loaded entryA stepA) := by decide

/-- The step A due with a manual pulse ACTIVE until now. -/
def pulseInTheWay (reached : Bool) : State :=
  pulsing (.active .manual 5) (setContext { begunA with dueReached := reached } due)

theorem test_witness_manual_pulse :
    ∀ reached : Bool, (pulseInTheWay reached).inReset = false ∧ (pulseInTheWay reached).seq.state = .delaying ∧
      (pulseInTheWay reached).seq.context = some { begunA with dueReached := reached } ∧
      stepA.delay.toNat ≤ ((pulseInTheWay reached).timebase.tsc - begunA.reference).toNat ∧
      ((pulseInTheWay reached).syncs[(3 : Fin 4)]).pulse = .active .manual 5 ∧
      hasCome (pulseInTheWay reached).timebase.tsc 5 = true := by decide

/-- R36, R109: the due instant waits behind the pulse, and the pulse's end starts the exposure. -/
theorem test_manual_pulse_delays :
    (after (exec .dueInstant (pulseInTheWay false))).seq.state = .delaying ∧
      (after (exec (.syncEnd 3) (pulseInTheWay true))).seq.state = .exposing ∧
      (after (exec (.syncEnd 3) (pulseInTheWay false))).seq.state = .delaying := by decide

/-- The step B waiting, with an arrival queued that its mask does not take. -/
def unmatched : State := queued [{ source := 2, time := 1 }] (playing .waiting (freshContext loaded entryB stepB))

theorem test_witness_unmatched :
    unmatched.seq.state = .waiting ∧ unmatched.seq.mode ≠ .manual ∧ unmatched.policy.acceptance = .queueAny ∧
      unmatched.seq.context = some (freshContext loaded entryB stepB) ∧ stepB.advance = .trigger 0x11 ∧
      accepts 0x11 1 = false ∧ (∀ a ∈ unmatched.triggers.queue, accepts 0x11 a.source = false) ∧
      unmatched.triggers.queue.length < 8 := by decide

theorem test_witness_open_replaces :
    commandable (withArgs 1 2 0 (loading .order 2 staged)) ∧ (loading .order 2 staged).port.kind ≠ .none ∧
    (loading .order 2 staged).tables.commitPending = false ∧ loadInFlight (loading .order 2 staged) = false ∧
    saveOfStagingInFlight (loading .order 2 staged) = false ∧ (withArgs 1 2 0 staged).cmd.arg[0] = 1 ∧
    ((withArgs 1 2 0 staged).cmd.arg[1]).toNat ≤ (loading .order 2 staged).port.start + (loading .order 2 staged).port.written ∧
    (∃ u, exec .closePort { loading .order 2 staged with
      port := { (loading .order 2 staged).port with lastError := .none, errorIndex := 0 } } = .next u) :=
  ⟨by decide, by decide, by decide, by decide, by decide, by decide, by decide, exec_answers_next _ _⟩

def inFlightLoad (s : State) : State := withJob (.load (freshLoad 0)) s

theorem test_witness_open_refused :
    (1 < ((withArgs 2 0 0 ready).cmd.arg[0]).toNat ∧ 127 < ((withArgs 0 128 0 ready).cmd.arg[1]).toNat ∧
      511 < ((withArgs 1 512 0 ready).cmd.arg[1]).toNat ∧ 1 < ((withArgs 0 0 2 ready).cmd.arg[2]).toNat) ∧
    (pendingCommit staged).tables.commitPending = true ∧ saveOfStagingInFlight saving = true ∧
    (stagingBank (withArgs 1 3 0 staged)).order.length < ((withArgs 1 3 0 staged).cmd.arg[1]).toNat ∧
    (loadInFlight (inFlightLoad (withArgs 0 0 1 ready)) = true ∧ (withArgs 0 0 1 ready).cmd.arg[2] = 1) := by decide

/-- R131: a PARTIAL_RECORD of the session that is replaced stands after the new OPEN. -/
theorem test_open_reports_partial_record :
    (after (exec .openLoad assembling)).port.lastError = .partialRecord ∧
      (after (exec .openLoad assembling)).port.errorIndex = 127 ∧ (after (exec .openLoad assembling)).port.next = 0 := by
  decide

def desynced : State := { ready with port := { ready.port with kind := .desync } }

theorem test_witness_table_ends :
    desynced.inReset = false ∧ desynced.port.kind = .desync ∧
    ((loading .order 512 ready).port.kind = .load ∧ (loading .order 512 ready).port.table = .order ∧
      512 ≤ (loading .order 512 ready).port.next) ∧
    (({ readingSteps with port := { readingSteps.port with next := 128 } } : State).port.table = .steps) ∧
    ((reading .active loaded).port.table = .order ∧
      (loaded.tables.bank (loaded.tables.ofRole .active)).order.length ≤ 512) := by decide

/-- R137: TABLE_FULL at the end of the Order List. -/
theorem test_order_table_full :
    (after (exec (.tpDataWrite 1) (loading .order 512 ready))).port.lastError = .tableFull ∧
      (after (exec (.tpDataWrite 1) (loading .order 512 ready))).port.errorIndex = 512 := by decide

theorem test_witness_load_ends_read :
    commandable (withArgs 2 0 0 (reading .staging oneSlot)) ∧ (reading .staging oneSlot).store.job = .idle ∧
    (reading .staging oneSlot).tables.commitPending = false ∧ loadSession (reading .staging oneSlot) = false ∧
    (reading .staging oneSlot).port.kind = .read ∧ (reading .staging oneSlot).port.bank = .staging := by decide

def unfinished (s : State) : State := { s with tables := { s.tables with incomplete := true } }

theorem test_witness_store_refusals :
    (5 < ((withArgs 6 0 0 ready).cmd.arg[0]).toNat ∧ 1 < ((withArgs 0 2 0 ready).cmd.arg[1]).toNat ∧
      2 < ((withArgs 7 3 0 ready).cmd.arg[1]).toNat ∧ (withArgs 6 0 0 ready).cmd.arg[0] ≠ 7) ∧
    ((pendingCommit oneSlot).tables.commitPending = true ∧ (unfinished oneSlot).tables.incomplete = true ∧
      (withArgs 0 1 0 (unfinished oneSlot)).cmd.arg[1] = 1 ∧ (loading .steps 0 oneSlot).port.kind = .load ∧
      (loading .steps 0 oneSlot).store.job = .idle ∧ (loading .steps 0 oneSlot).tables.incomplete = false) ∧
    ((oneSlot.store.directory[(2 : Fin 6)]).state = .valid ∧ commandable (withArgs 2 0 0 (loading .steps 0 oneSlot))) := by
  decide

/-- After a SOFT_RESET: the abort pending, and the end to be quiet. -/
def quietly (s : State) : State := aborting { s with store := { s.store with quiet := true } }

/-- R165: the end sets no STORE_DONE. -/
theorem test_quiet_end :
    (after (exec (.eraseAttemptDone true) (quietly (withJob (.erase 0 3 0) ready)))).store.outcome = .aborted ∧
      (after (exec (.eraseAttemptDone true) (quietly (withJob (.erase 0 3 0) ready)))).status.flags = 0 ∧
      (after (exec (.eraseAttemptDone true) (aborting (withJob (.erase 0 3 0) ready)))).status.flags = storeDoneFlag := by
  decide

/-- R158, R160: a new copy that fails its verify leaves the current record. -/
theorem test_startup_program_fails :
    (after (exec (.programStepDone false) (withJob (.setStartup none .off 1 .programming) ready))).store.outcome =
        .programFailed ∧
      (after (exec (.programStepDone false) (withJob (.setStartup none .off 1 .programming) ready))).store.currentCopy =
        none := by decide

/-- A LOAD at its last sector, which has found an area to be no record, and one at its first. -/
def lastRead : LoadProgress := { freshLoad 5 with sectorsRead := 8, mismatch := true }

theorem test_witness_load_ends :
    ((withJob (.load lastRead) ready).store.job = .load lastRead ∧ lastRead.sectorsRead = 8 ∧ ready.store.boot = .done) ∧
    (¬readingMatches lastRead []) ∧
    (readingMatches { lastRead with
        header := .written { headerBody program 7 1 with
          check := some (slotCheck program 7 1), commit := Config.commitWord }
        mismatch := false, definedAreas := 2 } (imageWords program)) ∧
    ((quietly (inFlightLoad ready)).store.abortPending = true ∧ (freshLoad 0).sectorsRead < 8) := by
  refine ⟨by decide, ?_, ⟨_, rfl, by decide, ?_, rfl, by decide⟩, by decide⟩
  · rintro ⟨w, h, -⟩
    exact nomatch h
  · simp [HeaderWords.matchesImage, slotCheck, headerBody]

/-- R146: the condition of a header whose check value has been programmed. -/
theorem test_witness_header_condition :
    let w := { headerBody program 7 1 with check := some (slotCheck program 7 1), commit := Config.commitWord }
    (w.marker = Config.erased → w.check = none) ∧ (HeaderSector.written w).condition = .committed ∧
      (HeaderSector.written { w with commit := 0xC03C }).condition = .uncommitted ∧
      (HeaderSector.written { w with marker := 0 }).condition = .unreadable := by
  refine ⟨fun h => absurd h (by decide), by decide, by decide, by decide⟩

/-! ### Witnesses of the clauses on refusals, serves, re-checks, loads and views -/

/-- R19, R20: the three refusals of COPY_ACTIVE and CLEAR_STAGING, each with the later ones also in the way. -/
theorem test_witness_staging_refused :
    commandable (pendingCommit (loading .steps 0 saving)) ∧
    (after (exec .copyActive (pendingCommit (loading .steps 0 saving)))).cmd.result = .commitPending ∧
    ((loading .steps 0 saving).tables.commitPending = false ∧ (loading .steps 0 saving).port.kind = .load ∧
      (after (exec .clearStaging (loading .steps 0 saving))).cmd.result = .portOpen) ∧
    (saving.port.kind = .none ∧ saveInFlight saving = true ∧
      (after (exec .copyActive saving)).cmd.result = .storeBusy) := by decide

/-- Step 1 with the delay of the worked record, at the cursor, with an arrival that does not match and one that does. -/
def matchQueued (r : StepRecord) : State :=
  queued [{ source := 2, time := 1 }, { source := 0, time := 3 }] (atStepB
    { loaded with tables := { loaded.tables with bankA := { program with steps := program.steps.set 1 (some r) } } })

theorem test_witness_served_entry :
    (∀ r ∈ [workedRecord, stepB], atCursor (matchQueued r) = some (entryB, r) ∧ placesTaken (matchQueued r) < 32 ∧
      (matchQueued r).seq.mode ≠ .manual ∧ (∃ mask ∈ [(1 : SourceMask), 0x11], r.advance = .trigger mask ∧
        accepts mask 2 = false ∧ accepts mask 0 = true) ∧
      (matchQueued r).triggers.queue = [{ source := 2, time := 1 }] ++ { source := 0, time := 3 } :: []) ∧
    ((matchQueued workedRecord).timebase.tsc - 499).toNat ≥ workedRecord.delay.toNat ∧
    ((matchQueued workedRecord).timebase.tsc - 0).toNat < workedRecord.delay.toNat ∧
    stepB.delay.toNat ≤ ((matchQueued stepB).timebase.tsc - 3).toNat ∧ (matchQueued stepB).inReset = false := by decide

/-- R33, R67: RESUME at a TRIGGER step with a match queued begins it at once, here a dark step, which goes on to SETTLING. -/
theorem test_resume_serves :
    (after (exec .resume (inState .paused (matchQueued stepB)))).seq.state = .settling ∧
    (after (exec .resume (inState .paused (matchQueued stepB)))).triggers.queue = [] ∧
    (after (exec .resume (inState .paused (matchQueued stepB)))).counters.value[2] = 1 := by decide

theorem test_witness_freed_place_served :
    heldForSpace.seq.mode ≠ .manual ∧ stepA.advance = .immediate ∧ stepA.delay ≠ 0 ∧ heldForSpace.inReset = false := by
  decide

/-- The re-check of R93 on the refilled credits: one credit short, and just enough. -/
theorem test_witness_recheck :
    (∃ e ∈ stepA.channels, ¬skippedEntry (refill (heldForCredit 31)) begunA e ∧
      ¬satisfiedEntry (refill (heldForCredit 31)) begunA e) ∧
    (∀ e ∈ stepA.channels, skippedEntry (refill (heldForCredit 32)) begunA e ∨
      satisfiedEntry (refill (heldForCredit 32)) begunA e) ∧
    stepA.wf = true ∧ stepPulses (heldForCredit 32) = false := by decide

/-- R88: a channel disabled during the hold is skipped for the rest of the step. -/
theorem test_skip_is_final :
    let s := setChannel 0 { (heldForCredit 32).channels.channel[0] with enabled := false } (withMs (heldForCredit 32))
    ((after (exec .millisecondEvent s)).seq.context.map (·.skipped)) = some 1 ∧
    (after (exec .millisecondEvent s)).seq.state = .settling := by decide

theorem test_witness_fault_in_gap :
    settled.inReset = false ∧ (settled.channels.channel[7]).locked = false ∧ settled.policy.faultPolicy = .continue ∧
    (settled.seq.context.map fun c => (c.begun, c.gapStart)) = some (true, some 155) ∧
    ((after (exec (.faultAssert 7) settled)).seq.context.map fun c => (c.faultSeen, c.gapStart)) =
      some (true, some 155) := by decide

theorem test_witness_ch_enable_unbegun : stepBegun loaded = false ∧ loaded.seq.state ≠ .exposing := by decide

/-- R135, R136, 10.4: an IMMEDIATE advance with source bits, and with every unused bit of the record set. -/
theorem test_unused_bits_are_dropped :
    (decodeRecord [0xAB18, 0x3FFF, 7, 9, 0xFC01, 2]).toOption = some
      { tag := 0xAB, advance := .immediate, delay := 7, gap := 9, channels := [{ channel := 7, level := 1, width := 2 }]
        syncs := [] } := by decide

theorem test_witness_completing_word :
    (loading .steps 127 ready).inReset = false ∧ (loading .steps 127 ready).port.next = (127 : Fin 128).val ∧
    4 + 2 * ((0xAB18 : Word).toNat / 16 % 16) + 2 * ((0xAB18 : Word).toNat % 8) ≤
      ([0x3FFF, 7, 9, 0xFC01] : List Word).length + 2 ∧
    (decodeRecord (0xAB18 :: [0x3FFF, 7, 9, 0xFC01] ++ [2])).toOption.isSome = true ∧
    (advanceChecks 0x3FFF ∧ channelChecks [0xFC01, 2] 0 ∧ channelIsNew [0xFC01, 2] 0) := by decide

theorem test_witness_failed_program :
    (saving.store.array.headers[(5 : Fin 6)]).condition ≠ .committed ∧
    (((after (exec (.programStepDone false) (withJob (.save 5 .staging .b 7 1 (.programming 9)) saving))).store.directory[
      (5 : Fin 6)]).state = .damaged) := by decide

/-- R101: two lines asserted as the reset ends lock their channels. -/
theorem test_witness_two_faults_at_reset_end :
    let s := setFaultLine 2 true (setFaultLine 7 true asserted)
    s.inReset = true ∧ s.seq.state = .stopped ∧ s.seq.context = none ∧
    chLocked (after (exec .resetEnd s)) = 0x0084 ∧ (after (exec .resetEnd s)).status.flags = channelFaultFlag := by decide

theorem test_witness_views :
    exposing.inReset = false ∧ 1 ≤ exposing.seq.repetition ∧ exposing.seq.repetition ≤ 16 ∧ exposing.port.wordPos ≤ 27 ∧
    exposing.records.queue.length ≤ 32 ∧ (exposing.channels.channel[0]).gate = some { level := 900, closing := 155 } ∧
    (exposing.channels.channel[7]).gate = none := by decide

/-- 10.3: EXPOSING in CONTINUOUS mode at repetition 1, and REC_COUNT with 31 records and a place reserved. -/
theorem test_views :
    readRegister 0x0F exposing = 0x0204 ∧ readRegister 0x01 exposing = 0x0004 ∧
    readRegister 0x22 (recordsQueued 31 exposing) = 0x011F ∧ readRegister 0x34 ready = 0x0070 := by decide

/-- A channel lit at its boundary values. -/
theorem test_witness_channels_safe : channelsSafe exposing := by
  unfold channelsSafe Channel.safe
  decide

theorem test_witness_memory : memorySafe loadingProgram := Memory.program_wf ⟨List.Pairwise.nil, nofun⟩ _ _

/-- A state in the middle of an exposure is safe. -/
theorem test_witness_safe : Inv exposing := by
  refine ⟨test_witness_channels_safe, ?_, ?_, ?_, ⟨List.Pairwise.nil, nofun⟩, ?_, ?_, ⟨?_, ?_, ?_, ?_, ?_, ?_⟩, ?_⟩
  · unfold exposureSafe; decide
  · unfold triggersSafe; decide
  · unfold flagsSafe; decide
  · exact ⟨program_wf, ⟨by decide, by decide⟩, by decide, by decide⟩
  · unfold storeSafe; decide
  · unfold holdSafe; decide
  · unfold recordsSafe; decide
  · exact ⟨by decide, by decide, rfl, rfl, by decide, by decide, by decide, by decide⟩
  · refine ⟨by decide, fun _ => ⟨entryA, by decide⟩⟩
  · unfold banksSafe; decide
  · unfold bootSafe; decide
  · have h : exposing.records.queue = [] := rfl
    refine ⟨by simp [h], ?_⟩
    intro c hc
    obtain rfl := Option.some.inj hc
    decide

theorem test_witness_invariant_step : Inv exposing ∧ ∃ t, step exposing = .next t :=
  ⟨test_witness_safe, step_answers_next exposing⟩

theorem test_witness_step_record :
    workedRecord.wf = true ∧
    (decodeRecord (encodeRecord workedRecord)).toOption = some workedRecord := by decide

end Sys2Proof.Tests
end

section
/-! Validation of a bank (R12, R13): what `Bank.validate` answers in each case, and the obligation about it. -/
namespace Sys2Proof.Proofs
open Sys2Proof.Machine

theorem validate_of_order_nil {b : Bank} (h : b.order = []) : b.validate = some 0xFFFF := by
  simp [Bank.validate, h]

theorem validate_of_order_ne_nil {b : Bank} (h : b.order ≠ []) :
    b.validate = (b.order.findIdx? fun e => (b.steps[e.step]).isNone).map word :=
  if_neg h

theorem validate_eq_none_iff (b : Bank) :
    b.validate = none ↔ b.order ≠ [] ∧ ∀ e ∈ b.order, (b.steps[e.step]).isSome = true := by
  by_cases hnil : b.order = []
  · simp [validate_of_order_nil hnil, hnil]
  · simp [validate_of_order_ne_nil hnil, hnil, List.findIdx?_eq_none_iff, Option.isSome_iff_ne_none]

/-- R13: the detail is the lowest position that names an UNDEFINED step. -/
theorem validate_of_first_undefined {b : Bank} {n : Nat} {e : OrderEntry} (hget : b.order[n]? = some e)
    (hundef : (b.steps[e.step]).isNone = true)
    (hfirst : ∀ (m : Nat) (f : OrderEntry), m < n → b.order[m]? = some f → (b.steps[f.step]).isSome = true) :
    b.validate = some (word n) := by
  obtain ⟨hlt, rfl⟩ := List.getElem?_eq_some_iff.mp hget
  have hfind : (b.order.findIdx? fun e => (b.steps[e.step]).isNone) = some n := by
    refine List.findIdx?_eq_some_iff_getElem.mpr ⟨hlt, hundef, fun m hm => ?_⟩
    have hdef := hfirst m b.order[m] hm (List.getElem?_eq_getElem (hm.trans hlt))
    rw [Option.isNone_eq_false_iff.mpr hdef]
    decide
  rw [validate_of_order_ne_nil (List.ne_nil_of_length_pos (Nat.zero_lt_of_lt hlt)), hfind, Option.map_some]

/-- Settles O6: the three answers of validation, each by its own lemma. -/
theorem validationExamines : Obligations.ValidationExamines := fun b =>
  ⟨validate_eq_none_iff b, validate_of_order_nil, fun _ _ => validate_of_first_undefined⟩

end Sys2Proof.Proofs
end

section
/-! The frame of the timebase (R55 to R57): no operation of another block changes it. One equation per operation, in the
order of the model's definitions, and from them that only a read of TSC_LO, hardware reset and the millisecond event change
the timebase by a command. -/
namespace Sys2Proof.Proofs
open Sys2Proof.Machine

/-! ### The life of a step -/

@[simp] theorem afterCheck_timebase (c : StepContext) (s : State) : (afterCheck c s).timebase = s.timebase := by
  rcases afterCheck_cases c s with ⟨_, _, _, h⟩ | ⟨_, _, _, h⟩ | ⟨_, _, _, h⟩ | ⟨_, h⟩ <;> simp [h]

@[simp] theorem tryExposure_timebase (s : State) : (tryExposure s).timebase = s.timebase := by
  rcases tryExposure_cases s with h | ⟨c, _, _, _, _, h⟩ <;> simp [h]

@[simp] theorem recheck_timebase (s : State) : (recheck s).timebase = s.timebase := by
  rcases recheck_cases s with h | ⟨c, _, _, _, h⟩ <;> simp [h]

@[simp] theorem beginStep_timebase (source : Option Source) (manual : Bool) (reference : Time) (c : StepContext)
    (s : State) : (beginStep source manual reference c s).timebase = s.timebase := by simp [beginStep]

@[simp] theorem serve_timebase (mask : SourceMask) (c : StepContext) (s : State) :
    (serve mask c s).timebase = s.timebase := by
  unfold serve
  split <;> simp

@[simp] theorem enterWaiting_timebase (c : StepContext) (s : State) : (enterWaiting c s).timebase = s.timebase := by
  rcases enterWaiting_cases c s with ⟨_, h⟩ | ⟨_, _, h⟩ | ⟨_, _, _, h⟩ <;> simp [h]

@[simp] theorem makeEntry_timebase (s : State) : (makeEntry s).timebase = s.timebase := by
  rcases makeEntry_cases s with ⟨_, h⟩ | ⟨_, _, _, ⟨_, _, h⟩ | ⟨_, _, h⟩ | ⟨_, h⟩⟩ <;> simp [h]

@[simp] theorem grantWaiting_timebase (s : State) : (grantWaiting s).timebase = s.timebase := by
  unfold grantWaiting
  split
  · cases s.seq.context <;> simp
  · rfl

@[simp] theorem passBoundary_timebase (s : State) : (passBoundary s).timebase = s.timebase := by simp [passBoundary]

@[simp] theorem goOn_timebase (halt : Bool) (s : State) : (goOn halt s).timebase = s.timebase := by
  unfold goOn
  split <;> simp

@[simp] theorem completeStep_timebase (c : StepContext) (s : State) : (completeStep c s).timebase = s.timebase := by
  unfold completeStep
  split
  · simp
  · split
    · simp
    · dsimp only
      split <;> simp

@[simp] theorem serveWaiting_timebase (s : State) : (serveWaiting s).timebase = s.timebase := by
  unfold serveWaiting
  repeat' split
  all_goals simp

@[simp] theorem arrive_timebase (source : Source) (s : State) : (arrive source s).timebase = s.timebase := by
  rcases arrive_cases source s with ⟨_, h⟩ | ⟨_, _, h⟩ | ⟨_, _, h⟩ <;> simp [h]

/-! ### Taking a command, an event or a read -/

theorem takeCommand_timebase {code : Word} {args : Bool} {refusal : Option (ResultCode × Word)} {effect : State → State}
    (h : ∀ t, (effect t).timebase = t.timebase) (s : State) :
    (takeCommand code args refusal effect s).timebase = s.timebase :=
  takeCommand_keeps (p := fun t => t.timebase = s.timebase) rfl (fun _ _ => rfl) fun _ _ _ _ => h _

theorem outOfReset_timebase {effect : State → State} (h : ∀ t, (effect t).timebase = t.timebase) (s : State) :
    (outOfReset effect s).timebase = s.timebase := by
  cases hr : s.inReset
  · rw [outOfReset_released hr, h]
  · rw [outOfReset_asserted hr]

theorem readAccess_timebase {effect : State → State} (h : ∀ t, (effect t).timebase = t.timebase) (value : State → Word)
    (s : State) : (readAccess value effect s).timebase = s.timebase := by
  cases hr : s.inReset
  · rw [readAccess_released hr, h]
  · rw [readAccess_asserted hr]

/-! ### Run control -/

@[simp] theorem startRun_timebase (mode : RunMode) (passes : Word) (fromBegin : Bool) (s : State) :
    (startRun mode passes fromBegin s).timebase = s.timebase := by simp [startRun]

@[simp] theorem pauseEffect_timebase (s : State) : (pauseEffect s).timebase = s.timebase := by
  unfold pauseEffect
  split
  · simp [pauseNow]
  · rfl

@[simp] theorem stepEffect_timebase (s : State) : (stepEffect s).timebase = s.timebase := by
  unfold stepEffect
  split <;> simp

@[simp] theorem takeRun_timebase (s : State) : (takeRun s).timebase = s.timebase :=
  takeCommand_timebase (startRun_timebase _ _ _) s

@[simp] theorem takeStop_timebase (s : State) : (takeStop s).timebase = s.timebase :=
  takeCommand_timebase (stopSequencer_timebase _) s

@[simp] theorem takePause_timebase (s : State) : (takePause s).timebase = s.timebase :=
  takeCommand_timebase pauseEffect_timebase s

@[simp] theorem takeResume_timebase (s : State) : (takeResume s).timebase = s.timebase :=
  takeCommand_timebase makeEntry_timebase s

@[simp] theorem takeStep_timebase (s : State) : (takeStep s).timebase = s.timebase :=
  takeCommand_timebase stepEffect_timebase s

@[simp] theorem takeSoftTrigger_timebase (s : State) : (takeSoftTrigger s).timebase = s.timebase :=
  takeCommand_timebase (arrive_timebase _) s

/-! ### The Recipe Store -/

@[simp] theorem takeSave_timebase (s : State) : (takeSave s).timebase = s.timebase :=
  takeCommand_timebase (fun _ => by simp [startSave]) s

@[simp] theorem takeLoad_timebase (s : State) : (takeLoad s).timebase = s.timebase :=
  takeCommand_timebase (fun _ => by simp [startLoad]) s

@[simp] theorem takeErase_timebase (s : State) : (takeErase s).timebase = s.timebase :=
  takeCommand_timebase (fun _ => by simp [startErase]) s

@[simp] theorem takeSetStartup_timebase (s : State) : (takeSetStartup s).timebase = s.timebase :=
  takeCommand_timebase (fun _ => by rfl) s

@[simp] theorem takeAbortStore_timebase (s : State) : (takeAbortStore s).timebase = s.timebase :=
  takeCommand_timebase (fun _ => by rfl) s

@[simp] theorem eraseSector_timebase (slot : Fin 6) (sector : Nat) (verified : Bool) (s : State) :
    (eraseSector slot sector verified s).timebase = s.timebase := by
  unfold eraseSector
  repeat' split
  all_goals simp

@[simp] theorem eraseAttempt_timebase (verified : Bool) (s : State) :
    (eraseAttempt verified s).timebase = s.timebase := by
  unfold eraseAttempt
  repeat' split
  all_goals simp

@[simp] theorem programPart_timebase (slot : Fin 6) (b : Bank) (label : Word) (generation : BitVec 32) (part : Nat)
    (s : State) : (programPart slot b label generation part s).timebase = s.timebase := by
  unfold programPart
  repeat' split
  all_goals simp

@[simp] theorem leftByProgram_timebase (slot : Fin 6) (part : Nat) (s : State) :
    (leftByProgram slot part s).timebase = s.timebase := by
  unfold leftByProgram
  repeat' split
  all_goals simp

@[simp] theorem programStep_timebase (verified : Bool) (s : State) : (programStep verified s).timebase = s.timebase := by
  unfold programStep
  repeat' split
  all_goals simp

@[simp] theorem loadSector_timebase (p : LoadProgress) (s : State) : (loadSector p s).timebase = s.timebase := by
  simp [loadSector]

@[simp] theorem clearIncomplete_timebase (s : State) : (clearIncomplete s).timebase = s.timebase := rfl

@[simp] theorem loadStep_timebase (p : LoadProgress) (s : State) : (loadStep p s).timebase = s.timebase := by
  unfold loadStep
  dsimp only
  repeat' split
  all_goals simp

@[simp] theorem changeStoredWord_timebase (place : StoredWord) (flip : Word) (s : State) :
    (changeStoredWord place flip s).timebase = s.timebase := by
  cases place with
  | header slot field => simp only [changeStoredWord]; split <;> rfl
  | image slot index => rfl
  | startup copy field => simp only [changeStoredWord]; split <;> rfl

/-! ### The scan and the boot -/

@[simp] theorem endBoot_timebase (o : BootOutcome) (s : State) : (endBoot o s).timebase = s.timebase := rfl

@[simp] theorem autorun_timebase (s : State) : (autorun s).timebase = s.timebase := by
  unfold autorun
  split <;> simp

@[simp] theorem bootCommit_timebase (s : State) : (bootCommit s).timebase = s.timebase := by
  unfold bootCommit
  split <;> simp

@[simp] theorem bootLoadStep_timebase (p : LoadProgress) (s : State) : (bootLoadStep p s).timebase = s.timebase := by
  unfold bootLoadStep
  dsimp only
  repeat' split
  all_goals simp

@[simp] theorem startBoot_timebase (s : State) : (startBoot s).timebase = s.timebase := by
  unfold startBoot
  repeat' split
  all_goals rfl

@[simp] theorem judgeSlot_timebase (slot : Fin 6) (e : DirectoryEntry) (s : State) :
    (judgeSlot slot e s).timebase = s.timebase := by
  unfold judgeSlot nextInScan
  split <;> rfl

@[simp] theorem scanHeader_timebase (slot : Fin 6) (s : State) : (scanHeader slot s).timebase = s.timebase := by
  unfold scanHeader
  repeat' split
  all_goals simp

@[simp] theorem scanImage_timebase (slot : Fin 6) (w : HeaderWords) (n : Nat) (words : List Word) (s : State) :
    (scanImage slot w n words s).timebase = s.timebase := by
  unfold scanImage
  dsimp only
  repeat' split
  all_goals simp

@[simp] theorem scanStartup55_timebase (first : Option StartupRecord) (s : State) :
    (scanStartup55 first s).timebase = s.timebase := by simp [scanStartup55]

@[simp] theorem sectorRead_timebase (s : State) : (sectorRead s).timebase = s.timebase := by
  unfold sectorRead
  repeat' split
  all_goals simp

/-! ### Pin events and timed events -/

@[simp] theorem senseEdge_timebase (i : Fin 4) (level : Bool) (s : State) :
    (senseEdge i level s).timebase = s.timebase := by
  unfold senseEdge
  dsimp only
  repeat' split
  all_goals simp

@[simp] theorem closeWindow_timebase (i : Fin 4) (s : State) : (closeWindow i s).timebase = s.timebase := by
  unfold closeWindow
  repeat' split
  all_goals simp

@[simp] theorem countHold_timebase (s : State) : (countHold s).timebase = s.timebase := by
  unfold countHold
  split <;> rfl

/-- The millisecond event is taken out of the divider, and the rest of the timebase stays. -/
theorem millisecond_timebase (s : State) : (millisecond s).timebase = { s.timebase with msDue := false } := by
  unfold millisecond
  split
  · simp
  · rename_i h
    simp only [Bool.not_eq_true] at h
    rw [← h]

@[simp] theorem expireHold_timebase (s : State) : (expireHold s).timebase = s.timebase := by
  unfold expireHold
  split <;> simp

@[simp] theorem reachDue_timebase (s : State) : (reachDue s).timebase = s.timebase := by
  unfold reachDue
  repeat' split
  all_goals simp

@[simp] theorem endGap_timebase (s : State) : (endGap s).timebase = s.timebase := by
  unfold endGap
  repeat' split
  all_goals simp

/-! ### Light channels and sync outputs -/

@[simp] theorem writeChEnable_timebase (w : Word) (s : State) : (writeChEnable w s).timebase = s.timebase := by
  simp [writeChEnable]

@[simp] theorem writeChCeiling_timebase (w : Word) (s : State) : (writeChCeiling w s).timebase = s.timebase := by
  unfold writeChCeiling
  split <;> rfl

@[simp] theorem lockChannel_timebase (n : Fin 8) (s : State) : (lockChannel n s).timebase = s.timebase := by
  unfold lockChannel
  dsimp only
  split <;> simp

@[simp] theorem assertFault_timebase (n : Fin 8) (s : State) : (assertFault n s).timebase = s.timebase := by
  unfold assertFault
  dsimp only
  split <;> simp

@[simp] theorem takeUnlockChannel_timebase (s : State) : (takeUnlockChannel s).timebase = s.timebase :=
  takeCommand_timebase (fun _ => by rfl) s

@[simp] theorem closeGate_timebase (n : Fin 8) (s : State) : (closeGate n s).timebase = s.timebase := by
  unfold closeGate
  split <;> simp

@[simp] theorem takePulseSync_timebase (s : State) : (takePulseSync s).timebase = s.timebase :=
  takeCommand_timebase (fun _ => by rfl) s

@[simp] theorem applySyncConfig_timebase (w : Word) (s : State) : (applySyncConfig w s).timebase = s.timebase := rfl

@[simp] theorem writeSyncConfig_timebase (w : Word) (s : State) : (writeSyncConfig w s).timebase = s.timebase := by
  unfold writeSyncConfig
  dsimp only
  split <;> simp

@[simp] theorem startPulse_timebase (i : Fin 4) (s : State) : (startPulse i s).timebase = s.timebase := by
  unfold startPulse
  repeat' split
  all_goals simp

@[simp] theorem endPulse_timebase (i : Fin 4) (s : State) : (endPulse i s).timebase = s.timebase := by
  unfold endPulse
  repeat' split
  all_goals simp

/-! ### The Table Port -/

@[simp] theorem openSession_timebase (kind : SessionKind) (table : TableKind) (bank : BankRole) (start : Nat) (s : State) :
    (openSession kind table bank start s).timebase = s.timebase := by
  unfold openSession
  dsimp only
  split <;> simp

@[simp] theorem takeOpenLoad_timebase (s : State) : (takeOpenLoad s).timebase = s.timebase :=
  takeCommand_timebase (openSession_timebase _ _ _ _) s

@[simp] theorem takeOpenRead_timebase (s : State) : (takeOpenRead s).timebase = s.timebase :=
  takeCommand_timebase (openSession_timebase _ _ _ _) s

@[simp] theorem takeClosePort_timebase (s : State) : (takeClosePort s).timebase = s.timebase :=
  takeCommand_timebase closeSession_timebase s

@[simp] theorem pastEnd_timebase (s : State) : (pastEnd s).timebase = s.timebase := by
  unfold pastEnd
  split <;> rfl

@[simp] theorem storeStep_timebase (i : Nat) (r : StepRecord) (s : State) : (storeStep i r s).timebase = s.timebase := by
  unfold storeStep
  split <;> rfl

@[simp] theorem completeRecord_timebase (ws : List Word) (s : State) : (completeRecord ws s).timebase = s.timebase := by
  unfold completeRecord
  dsimp only
  split <;> simp

@[simp] theorem headerWord_timebase (w : Word) (s : State) : (headerWord w s).timebase = s.timebase := by
  unfold headerWord
  split <;> rfl

@[simp] theorem stepWord_timebase (w : Word) (s : State) : (stepWord w s).timebase = s.timebase := by
  unfold stepWord
  repeat' split
  all_goals simp

@[simp] theorem orderWord_timebase (w : Word) (s : State) : (orderWord w s).timebase = s.timebase := by
  unfold orderWord
  split
  · simp
  · dsimp only
    split <;> simp

@[simp] theorem writeTpData_timebase (w : Word) (s : State) : (writeTpData w s).timebase = s.timebase := by
  unfold writeTpData
  repeat' split
  all_goals simp

@[simp] theorem advanceRead_timebase (s : State) : (advanceRead s).timebase = s.timebase := by
  unfold advanceRead
  repeat' split
  all_goals simp

/-! ### Program tables and shot records -/

@[simp] theorem commitEffect_timebase (s : State) : (commitEffect s).timebase = s.timebase := by
  unfold commitEffect
  split <;> simp

@[simp] theorem replaceStaging_timebase (b : Bank) (s : State) : (replaceStaging b s).timebase = s.timebase := by
  simp [replaceStaging]

@[simp] theorem takeCommit_timebase (s : State) : (takeCommit s).timebase = s.timebase :=
  takeCommand_timebase commitEffect_timebase s

@[simp] theorem takeCancelCommit_timebase (s : State) : (takeCancelCommit s).timebase = s.timebase :=
  takeCommand_timebase (fun _ => by rfl) s

@[simp] theorem takeCopyActive_timebase (s : State) : (takeCopyActive s).timebase = s.timebase :=
  takeCommand_timebase (fun t => replaceStaging_timebase (activeBank t) t) s

@[simp] theorem takeClearStaging_timebase (s : State) : (takeClearStaging s).timebase = s.timebase :=
  takeCommand_timebase (replaceStaging_timebase _) s

@[simp] theorem popRecord_timebase (s : State) : (popRecord s).timebase = s.timebase := by
  unfold popRecord
  split <;> simp

@[simp] theorem takeFlushRecords_timebase (s : State) : (takeFlushRecords s).timebase = s.timebase :=
  takeCommand_timebase (fun _ => by simp) s

@[simp] theorem takeClearCounters_timebase (s : State) : (takeClearCounters s).timebase = s.timebase :=
  takeCommand_timebase zeroCounters_timebase s

/-! ### The configuration registers -/

@[simp] theorem writeStatusFlags_timebase (w : Word) (s : State) : (writeStatusFlags w s).timebase = s.timebase := by
  simp [writeStatusFlags]

@[simp] theorem writeIrqEnable_timebase (w : Word) (s : State) : (writeIrqEnable w s).timebase = s.timebase := by
  simp [writeIrqEnable]

@[simp] theorem writeRecThreshold_timebase (w : Word) (s : State) : (writeRecThreshold w s).timebase = s.timebase := by
  unfold writeRecThreshold
  split <;> rfl

@[simp] theorem writePolicy_timebase (w : Word) (s : State) : (writePolicy w s).timebase = s.timebase := by
  unfold writePolicy
  repeat' split
  all_goals rfl

@[simp] theorem writeTrigConfig_timebase (w : Word) (s : State) : (writeTrigConfig w s).timebase = s.timebase := rfl

@[simp] theorem writeHoldoff_timebase (i : Fin 4) (w : Word) (s : State) : (writeHoldoff i w s).timebase = s.timebase :=
  rfl

@[simp] theorem writeLateTolerance_timebase (w : Word) (s : State) : (writeLateTolerance w s).timebase = s.timebase := rfl

@[simp] theorem writeHoldTimeout_timebase (w : Word) (s : State) : (writeHoldTimeout w s).timebase = s.timebase := rfl

@[simp] theorem writeArg_timebase (i : Fin 4) (w : Word) (s : State) : (writeArg i w s).timebase = s.timebase := rfl

@[simp] theorem writeChSelect_timebase (w : Word) (s : State) : (writeChSelect w s).timebase = s.timebase := by
  unfold writeChSelect
  split <;> rfl

@[simp] theorem writeChTrim_timebase (w : Word) (s : State) : (writeChTrim w s).timebase = s.timebase := by
  unfold writeChTrim
  split <;> rfl

@[simp] theorem writeChRate_timebase (w : Word) (s : State) : (writeChRate w s).timebase = s.timebase := by
  unfold writeChRate
  split <;> rfl

@[simp] theorem writeDirSelect_timebase (w : Word) (s : State) : (writeDirSelect w s).timebase = s.timebase := by
  unfold writeDirSelect
  split <;> rfl

@[simp] theorem writeCntSelect_timebase (w : Word) (s : State) : (writeCntSelect w s).timebase = s.timebase := by
  unfold writeCntSelect
  split <;> rfl

/-! ### Resets and the register window -/

theorem lockAsserted_timebase (s : State) : (lockAsserted s).timebase = s.timebase := by
  refine List.foldlRecOn (motive := fun t : State => t.timebase = s.timebase) allChannels _ rfl ?_
  intro t ih n _
  split
  · rw [lockChannel_timebase, ih]
  · exact ih

@[simp] theorem releaseReset_timebase (s : State) : (releaseReset s).timebase = s.timebase := by
  unfold releaseReset
  split
  · rw [lockAsserted_timebase]
  · rfl

theorem hardwareReset_timebase (s : State) : (hardwareReset s).timebase = Timebase.reset := rfl

@[simp] theorem softAbort_timebase (s : State) : (softAbort s).timebase = s.timebase := by
  unfold softAbort
  split <;> rfl

@[simp] theorem takeSoftReset_timebase (s : State) : (takeSoftReset s).timebase = s.timebase :=
  takeCommand_timebase (fun _ => by simp [softResetEffect]) s

@[simp] theorem takeUnknown_timebase (code : Word) (s : State) : (takeUnknown code s).timebase = s.timebase :=
  outOfReset_timebase (verdict_timebase code _ _) s

@[simp] theorem writeCommand_timebase (code : Word) (s : State) : (writeCommand code s).timebase = s.timebase := by
  unfold writeCommand
  split <;> simp

@[simp] theorem writeRegister_timebase (addr : BitVec 6) (w : Word) (s : State) :
    (writeRegister addr w s).timebase = s.timebase := by
  unfold writeRegister
  split <;> simp

/-! ### Every command -/

/-- Only a read of TSC_LO, hardware reset and the millisecond event change the timebase by a command. -/
theorem exec_timebase {c : Instr} {s t : State} (hlatch : c ≠ .tscLoRead) (hreset : c ≠ .hardwareReset)
    (hms : c ≠ .millisecondEvent) (h : exec c s = .next t) : t.timebase = s.timebase := by
  cases c with
  | tscLoRead => exact absurd rfl hlatch
  | hardwareReset => exact absurd rfl hreset
  | millisecondEvent => exact absurd rfl hms
  | _ =>
    cases h
    simp [outOfReset_timebase, readAccess_timebase]

/-- The millisecond event keeps the TSC and the snapshot. -/
theorem exec_millisecondEvent_timebase {s t : State} (h : exec .millisecondEvent s = .next t) :
    t.timebase = s.timebase ∨ t.timebase = { s.timebase with msDue := false } := by
  cases h
  cases hr : s.inReset
  · rw [outOfReset_released hr, millisecond_timebase]
    exact .inr rfl
  · rw [outOfReset_asserted hr]
    exact .inl rfl

end Sys2Proof.Proofs
end

section
/-! The pair TSC_LO then TSC_HI (R56): what the read of TSC_LO latches, what keeps the snapshot, and the obligation about
it. -/
namespace Sys2Proof.Proofs
open Sys2Proof.Machine

/-! ### The two halves -/

theorem readRegister_tscLo {s : State} (h : s.inReset = false) :
    readRegister 0x0B s = word (s.timebase.tsc.toNat % 65536) := by
  simp [readRegister, h, registerWord, tscLow]

theorem readRegister_tscHi {s : State} (h : s.inReset = false) : readRegister 0x0C s = s.timebase.snapshot := by
  simp [readRegister, h, registerWord]

/-- The two words of a TSC value are the whole of it. -/
theorem tsc_halves (v : Time) : (word (v.toNat / 65536)).toNat * 65536 + (word (v.toNat % 65536)).toNat = v.toNat := by
  have hv := v.isLt
  simp only [BitVec.toNat_ofNat]
  omega

/-! ### The accesses to TSC_LO and TSC_HI -/

theorem exec_tscLoRead {s : State} (h : s.inReset = false) :
    exec .tscLoRead s = .next { latchTsc s with readData := tscLow s } :=
  congrArg Host.Outcome.next (readAccess_released h)

/-- R56: the read of TSC_LO latches the other half, and nothing else. -/
theorem exec_tscLoRead_latches {s : State} (h : s.inReset = false) :
    ∃ t, exec .tscLoRead s = .next t ∧ t.readData = word (s.timebase.tsc.toNat % 65536) ∧
      readRegister 0x0C t = word (s.timebase.tsc.toNat / 65536) ∧
      (readRegister 0x0C t).toNat * 65536 + t.readData.toNat = s.timebase.tsc.toNat ∧
      t = { s with readData := t.readData, timebase := { s.timebase with snapshot := t.timebase.snapshot } } := by
  have hhi : readRegister 0x0C { latchTsc s with readData := tscLow s } = word (s.timebase.tsc.toNat / 65536) :=
    readRegister_tscHi h
  refine ⟨_, exec_tscLoRead h, rfl, hhi, ?_, rfl⟩
  rw [hhi]
  exact tsc_halves s.timebase.tsc

/-- A write that its address's register ignores leaves the state as it is (R181). -/
theorem exec_registerWrite_ignored {addr : BitVec 6} {w : Word} {s : State} (h : writeRegister addr w s = s) :
    exec (.registerWrite addr w) s = .next s := by
  have heq : outOfReset (writeRegister addr w) s = s := by simp [outOfReset, h]
  exact congrArg Host.Outcome.next heq

/-! ### What keeps the snapshot -/

theorem tickDivider_snapshot (t : Timebase) : (tickDivider t).snapshot = t.snapshot := by
  unfold tickDivider
  split <;> rfl

/-- Neither a microsecond nor the delivery of events changes the snapshot. -/
theorem idleStep_snapshot (s : State) : (idleStep s).timebase.snapshot = s.timebase.snapshot := by
  rcases idleStep_cases s with ⟨_, h⟩ | ⟨_, _, h⟩ | ⟨_, _, _, h⟩ <;> rw [h]
  · exact tickDivider_snapshot s.timebase
  · rfl

theorem step_snapshot_of_pending_nil {s t : State} (hp : s.pending = []) (h : step s = .next t) :
    t.timebase.snapshot = s.timebase.snapshot := by
  rcases step_cases h with ⟨_, rfl⟩ | ⟨c, rest, hc, _⟩
  · exact idleStep_snapshot s
  · rw [hp] at hc
    cases hc

theorem exec_snapshot_and_tsc {c : Instr} {s t : State} (hlatch : c ≠ .tscLoRead) (hreset : c ≠ .hardwareReset)
    (h : exec c s = .next t) : t.timebase.snapshot = s.timebase.snapshot ∧ t.timebase.tsc = s.timebase.tsc := by
  by_cases hms : c = .millisecondEvent
  · subst hms
    rcases exec_millisecondEvent_timebase h with ht | ht <;> rw [ht] <;> exact ⟨rfl, rfl⟩
  · rw [exec_timebase hlatch hreset hms h]
    exact ⟨rfl, rfl⟩

theorem exec_hardwareReset_snapshot {s t : State} (h : exec .hardwareReset s = .next t) : t.timebase.snapshot = 0 := by
  cases h
  rw [hardwareReset_timebase]
  rfl

/-- Settles O23: the latch by its equation, and every other step by the frame of the timebase. -/
theorem tscPairIsConsistent : Obligations.TscPairIsConsistent := by
  refine ⟨fun s h => ⟨readRegister_tscLo h, readRegister_tscHi h, exec_tscLoRead_latches h, fun w => ?_⟩,
    fun _ _ => step_snapshot_of_pending_nil, fun _ _ _ => exec_snapshot_and_tsc, fun _ _ => exec_hardwareReset_snapshot,
    fun _ _ h => exec_timebase (by decide) (by decide) (by decide) h⟩
  exact ⟨exec_registerWrite_ignored rfl, exec_registerWrite_ignored rfl⟩

end Sys2Proof.Proofs
end

section
/-! The cost of a channel entry (R76, R87): the bounds of the effective level, the cost as a quotient rounded up, and the
obligation about it. -/
namespace Sys2Proof.Proofs
open Sys2Proof.Machine

/-! ### The effective level -/

theorem one_le_effectiveLevel (level trim : Nat) : 1 ≤ effectiveLevel level trim := Nat.le_max_left _ _

/-- A trim of at most 256, which stands for 1, does not raise a level above the largest level (R76). -/
theorem effectiveLevel_le {level trim : Nat} (hlevel : level ≤ 1023) (htrim : trim ≤ 256) :
    effectiveLevel level trim ≤ 1023 :=
  Nat.max_le.mpr ⟨by decide, Nat.div_le_of_le_mul <|
    calc level * trim ≤ 1023 * 256 := Nat.mul_le_mul hlevel htrim
      _ = 256 * 1023 := Nat.mul_comm _ _⟩

/-! ### The cost -/

/-- The cost is the quotient of effective level times width by 1024, rounded up: 1024 times it is at least the product and
exceeds it by less than 1024 (R87). -/
theorem cost_rounds_up (level trim width : Nat) :
    1024 * cost level trim width < effectiveLevel level trim * width + 1024 ∧
    effectiveLevel level trim * width ≤ 1024 * cost level trim width := by
  unfold cost
  omega

theorem one_le_cost {level trim width : Nat} (hwidth : 1 ≤ width) : 1 ≤ cost level trim width := by
  have hproduct : 1 ≤ effectiveLevel level trim * width := Nat.mul_pos (one_le_effectiveLevel level trim) hwidth
  have hup := (cost_rounds_up level trim width).2
  omega

/-- The largest cost is that of level 1023 for 65535 microseconds with no trim. -/
theorem cost_le {level trim width : Nat} (hlevel : level ≤ 1023) (htrim : trim ≤ 256) (hwidth : width ≤ 65535) :
    cost level trim width ≤ 65472 := by
  have hproduct : effectiveLevel level trim * width ≤ 1023 * 65535 :=
    Nat.mul_le_mul (effectiveLevel_le hlevel htrim) hwidth
  have hup := (cost_rounds_up level trim width).1
  omega

/-- Settles O27, by the two bounds of the rounding and the bounds of the effective level. -/
theorem costOfEntry : Obligations.CostOfEntry := by
  refine ⟨fun level trim width _ hlevel _ htrim hwidth hwidth' => ?_, by decide, by decide, by decide, fun _ _ => rfl⟩
  obtain ⟨hlt, hle⟩ := cost_rounds_up level trim width
  exact ⟨rfl, hlt, hle, one_le_cost hwidth, cost_le hlevel htrim hwidth'⟩

end Sys2Proof.Proofs
end

section
/-! The ceiling of a channel (R85): the clamped credit of a write to CH_CEILING, what the resets make of the channels, and
the obligation about it. -/
namespace Sys2Proof.Proofs
open Sys2Proof.Machine

/-! ### The write -/

/-- The credit that a write to CH_CEILING leaves is the smaller of the credit and the new ceiling. -/
theorem clampedCredit_eq_min (w credit : Word) :
    (if w.toNat < credit.toNat then w else credit) = word (min credit.toNat w.toNat) := by
  split
  case isTrue h => rw [Nat.min_eq_right h.le, word, BitVec.ofNat_toNat, BitVec.setWidth_eq]
  case isFalse h => rw [Nat.min_eq_left (Nat.le_of_not_lt h), word, BitVec.ofNat_toNat, BitVec.setWidth_eq]

/-- A write of 0 to CH_CEILING is ignored. -/
theorem writeChCeiling_zero (s : State) : writeChCeiling 0 s = writeIgnored s := if_pos rfl

theorem writeChCeiling_of_ne_zero {w : Word} (h : w ≠ 0) (s : State) :
    writeChCeiling w s = setChannel s.channels.select { s.channels.channel[s.channels.select] with
      ceiling := w
      credit := word (min (s.channels.channel[s.channels.select]).credit.toNat w.toNat) } s := by
  rw [writeChCeiling, if_neg h, ← clampedCredit_eq_min]

theorem exec_chCeilingWrite {s : State} (h : s.inReset = false) (w : Word) :
    exec (.chCeilingWrite w) s = .next (writeChCeiling w s) :=
  congrArg Host.Outcome.next (outOfReset_released h)

/-! ### The resets -/

/-- Hardware reset gives every channel its reset value, and only the level of its fault line stays (R101). -/
theorem hardwareReset_channel (s : State) (i : Fin 8) :
    (hardwareReset s).channels.channel[i] = Channel.reset (s.channels.channel[i]).faultLine := by
  have hcut : (cutOffStep s).channels = s.channels := by rw [cutOffStep_frame]
  simp [hardwareReset, resetBlocks, ChannelUnit.reset, hcut]

theorem softAbort_channels (s : State) : (softAbort s).channels = s.channels := by
  unfold softAbort
  split <;> rfl

/-- SOFT_RESET closes every gate and changes nothing else of the channels (R170). -/
theorem softResetEffect_channels (s : State) : (softResetEffect s).channels = (closeGates s).channels := by
  simp [softResetEffect, softAbort_channels]

theorem closeGates_ceiling (s : State) (i : Fin 8) :
    ((closeGates s).channels.channel[i]).ceiling = (s.channels.channel[i]).ceiling := by simp

/-- SOFT_RESET keeps every ceiling, taken or refused. -/
theorem takeSoftReset_ceiling (s : State) (i : Fin 8) :
    ((takeSoftReset s).channels.channel[i]).ceiling = (s.channels.channel[i]).ceiling := by
  refine takeCommand_keeps (p := fun t => (t.channels.channel[i]).ceiling = (s.channels.channel[i]).ceiling) rfl
    (fun _ _ => rfl) fun _ _ _ _ => ?_
  rw [softResetEffect_channels, closeGates_ceiling, verdict_channels]

/-- Settles O29, by the value written, and by what each reset makes of a channel. -/
theorem chCeilingWriteClamps : Obligations.ChCeilingWriteClamps := by
  refine ⟨fun s w hreset => ?_, fun s t i => ⟨fun h => ?_, fun h => ?_⟩⟩
  · rw [exec_chCeilingWrite hreset]
    by_cases hw : w = 0
    · rw [if_pos hw, hw, writeChCeiling_zero]
      rfl
    · rw [if_neg hw, writeChCeiling_of_ne_zero hw]
      rfl
  · cases h
    rw [hardwareReset_channel]
    rfl
  · cases h
    exact takeSoftReset_ceiling s i

end Sys2Proof.Proofs
end

section
/-! Reads of TP_DATA (R138, R139) and accesses that no session serves (R140): the word that a read returns and what it does
to the session, by session and table, and the obligation about it. -/
namespace Sys2Proof.Proofs
open Sys2Proof.Machine

/-! ### The accesses -/

theorem exec_tpDataRead {s : State} (h : s.inReset = false) :
    exec .tpDataRead s = .next { advanceRead s with readData := tpDataWord s } :=
  congrArg Host.Outcome.next (readAccess_released h)

theorem exec_tpDataWrite {s : State} (h : s.inReset = false) (w : Word) :
    exec (.tpDataWrite w) s = .next (writeTpData w s) :=
  congrArg Host.Outcome.next (outOfReset_released h)

/-! ### The image at the next index -/

theorem nextImage_of_le {s : State} (h : 128 ≤ s.port.next) : nextImage s = [] := dif_neg (Nat.not_lt.mpr h)

theorem nextImage_of_next_eq {s : State} {i : Fin 128} (h : s.port.next = i.val) :
    nextImage s = stepImage (sessionBank s).steps[i] := by
  simp [nextImage, h]

/-! ### The word read -/

theorem tpDataWord_of_kind_ne_read {s : State} (h : s.port.kind ≠ .read) : tpDataWord s = 0 := if_neg h

theorem tpDataWord_steps {s : State} (hkind : s.port.kind = .read) (htable : s.port.table = .steps) :
    tpDataWord s = ((nextImage s)[s.port.wordPos]?).getD 0 := by
  rw [tpDataWord, if_pos hkind, htable]

theorem tpDataWord_order {s : State} (hkind : s.port.kind = .read) (htable : s.port.table = .order) :
    tpDataWord s = (((sessionBank s).order[s.port.next]?).map encodeOrder).getD 0 := by
  rw [tpDataWord, if_pos hkind, htable]
  cases (sessionBank s).order[s.port.next]? <;> rfl

/-- Past the last step of the Step Table a read returns 0 (R138). -/
theorem tpDataWord_steps_of_le {s : State} (hkind : s.port.kind = .read) (htable : s.port.table = .steps)
    (hnext : 128 ≤ s.port.next) : tpDataWord s = 0 := by
  rw [tpDataWord_steps hkind htable, nextImage_of_le hnext]
  rfl

/-- At or beyond L a read of the Order List returns 0 (R139). -/
theorem tpDataWord_order_of_length_le {s : State} (hkind : s.port.kind = .read) (htable : s.port.table = .order)
    (hnext : (sessionBank s).order.length ≤ s.port.next) : tpDataWord s = 0 := by
  rw [tpDataWord_order hkind htable, List.getElem?_eq_none hnext]
  rfl

/-! ### What a read does to the session -/

theorem advanceRead_steps_of_le {s : State} (hkind : s.port.kind = .read) (htable : s.port.table = .steps)
    (hnext : 128 ≤ s.port.next) : advanceRead s = s := by
  simp only [advanceRead, hkind, htable, if_pos hnext]

/-- A read moves to the next word of the image and, behind its last word, to the next step (R138). -/
theorem advanceRead_steps_of_lt {s : State} (hkind : s.port.kind = .read) (htable : s.port.table = .steps)
    (hnext : s.port.next < 128) :
    advanceRead s = { s with port := if s.port.wordPos + 1 < (nextImage s).length then
        { s.port with wordPos := s.port.wordPos + 1 }
      else { s.port with next := s.port.next + 1, wordPos := 0 } } := by
  simp only [advanceRead, hkind, htable, if_neg (Nat.not_le.mpr hnext)]
  split <;> rfl

theorem advanceRead_order_of_le {s : State} (hkind : s.port.kind = .read) (htable : s.port.table = .order)
    (hnext : 512 ≤ s.port.next) : advanceRead s = s := by
  simp only [advanceRead, hkind, htable, if_pos hnext]

theorem advanceRead_order_of_lt {s : State} (hkind : s.port.kind = .read) (htable : s.port.table = .order)
    (hnext : s.port.next < 512) : advanceRead s = { s with port := { s.port with next := s.port.next + 1 } } := by
  simp only [advanceRead, hkind, htable, if_neg (Nat.not_le.mpr hnext)]

/-! ### Accesses that no session serves -/

theorem advanceRead_none {s : State} (h : s.port.kind = .none) : advanceRead s = portError .noSession 0xFFFF s := by
  simp only [advanceRead, h]

theorem advanceRead_of_load_or_desync {s : State} (h : s.port.kind = .load ∨ s.port.kind = .desync) :
    advanceRead s = portError .wrongDirection (word s.port.next) s := by
  rcases h with h | h <;> simp only [advanceRead, h]

theorem writeTpData_none {s : State} (h : s.port.kind = .none) (w : Word) :
    writeTpData w s = portError .noSession 0xFFFF s := by
  simp only [writeTpData, h]

theorem writeTpData_read {s : State} (h : s.port.kind = .read) (w : Word) :
    writeTpData w s = portError .wrongDirection (word s.port.next) s := by
  simp only [writeTpData, h]

/-! ### The reads by session -/

/-- A read past the end of the table, at step 128 or at entry 512, returns 0 and leaves the session as it is. -/
theorem exec_tpDataRead_past_end {s : State} (hreset : s.inReset = false) (hkind : s.port.kind = .read)
    (hend : (s.port.table = .steps ∧ 128 ≤ s.port.next) ∨
      (s.port.table = .order ∧ 512 ≤ s.port.next ∧ (sessionBank s).order.length ≤ 512)) :
    exec .tpDataRead s = .next { s with readData := 0 } := by
  rw [exec_tpDataRead hreset]
  rcases hend with ⟨htable, hnext⟩ | ⟨htable, hnext, hlength⟩
  · rw [advanceRead_steps_of_le hkind htable hnext, tpDataWord_steps_of_le hkind htable hnext]
  · rw [advanceRead_order_of_le hkind htable hnext,
      tpDataWord_order_of_length_le hkind htable (hlength.trans hnext)]

theorem exec_tpDataRead_steps {s : State} {i : Fin 128} {w : Word} (hreset : s.inReset = false)
    (hkind : s.port.kind = .read) (htable : s.port.table = .steps) (hnext : s.port.next = i.val)
    (hword : (stepImage (sessionBank s).steps[i])[s.port.wordPos]? = some w) :
    exec .tpDataRead s = .next { s with
      readData := w
      port := if s.port.wordPos + 1 < (stepImage (sessionBank s).steps[i]).length then
          { s.port with wordPos := s.port.wordPos + 1 }
        else { s.port with next := i.val + 1, wordPos := 0 } } := by
  have hlt : s.port.next < 128 := hnext ▸ i.isLt
  rw [exec_tpDataRead hreset, advanceRead_steps_of_lt hkind htable hlt, tpDataWord_steps hkind htable,
    nextImage_of_next_eq hnext, hword, hnext]
  rfl

theorem exec_tpDataRead_order {s : State} (hreset : s.inReset = false) (hkind : s.port.kind = .read)
    (htable : s.port.table = .order) (hnext : s.port.next < 512) :
    exec .tpDataRead s = .next { s with
      readData := (((sessionBank s).order[s.port.next]?).map encodeOrder).getD 0
      port := { s.port with next := s.port.next + 1 } } := by
  rw [exec_tpDataRead hreset, advanceRead_order_of_lt hkind htable hnext, tpDataWord_order hkind htable]

theorem exec_tpDataRead_none {s : State} (hreset : s.inReset = false) (hkind : s.port.kind = .none) :
    exec .tpDataRead s = .next { portError .noSession 0xFFFF s with readData := 0 } := by
  have hne : s.port.kind ≠ .read := by simp [hkind]
  rw [exec_tpDataRead hreset, advanceRead_none hkind, tpDataWord_of_kind_ne_read hne]

theorem exec_tpDataRead_of_load_or_desync {s : State} (hreset : s.inReset = false)
    (hkind : s.port.kind = .load ∨ s.port.kind = .desync) :
    exec .tpDataRead s = .next { portError .wrongDirection (word s.port.next) s with readData := 0 } := by
  have hne : s.port.kind ≠ .read := by rcases hkind with h | h <;> simp [h]
  rw [exec_tpDataRead hreset, advanceRead_of_load_or_desync hkind, tpDataWord_of_kind_ne_read hne]

/-- Settles O44, by the session and the table that it reads. -/
theorem tpDataReadServes : Obligations.TpDataReadServes := by
  refine ⟨fun _ => exec_tpDataRead_past_end, fun _ _ _ => exec_tpDataRead_steps,
    fun s hreset hkind htable hnext => ?_, fun s w hreset hkind => ⟨exec_tpDataRead_none hreset hkind, ?_⟩,
    fun s w hreset => ⟨exec_tpDataRead_of_load_or_desync hreset, fun hkind => ?_⟩⟩
  · rw [exec_tpDataRead_order hreset hkind htable hnext, sessionBank]
    cases (s.tables.bank (s.tables.ofRole s.port.bank)).order[s.port.next]? <;> rfl
  · rw [exec_tpDataWrite hreset, writeTpData_none hkind]
    rfl
  · rw [exec_tpDataWrite hreset, writeTpData_read hkind]
    rfl

end Sys2Proof.Proofs
end

section
/-! The writes of STATUS_FLAGS, IRQ_ENABLE, REC_THRESHOLD and POLICY (R176, R178, R124, R64, R95, R119): the interrupt line
by the bits of its two words, POLICY by its fields, and the obligation about the four writes. -/
namespace Sys2Proof.Proofs
open Sys2Proof.Machine

/-! ### The accesses -/

theorem exec_statusFlagsWrite {s : State} (h : s.inReset = false) (w : Word) :
    exec (.statusFlagsWrite w) s = .next (writeStatusFlags w s) :=
  congrArg Host.Outcome.next (outOfReset_released h)

theorem exec_irqEnableWrite {s : State} (h : s.inReset = false) (w : Word) :
    exec (.irqEnableWrite w) s = .next (writeIrqEnable w s) :=
  congrArg Host.Outcome.next (outOfReset_released h)

theorem exec_recThresholdWrite {s : State} (h : s.inReset = false) (w : Word) :
    exec (.recThresholdWrite w) s = .next (writeRecThreshold w s) :=
  congrArg Host.Outcome.next (outOfReset_released h)

theorem exec_policyWrite {s : State} (h : s.inReset = false) (w : Word) :
    exec (.policyWrite w) s = .next (writePolicy w s) :=
  congrArg Host.Outcome.next (outOfReset_released h)

/-! ### The interrupt line -/

theorem and_ne_zero_iff_exists_bit (v w : Word) :
    (v &&& w != 0) = true ↔ ∃ i : Fin 16, bit v i.val = true ∧ bit w i.val = true := by
  rw [bne_iff_ne, ne_eq, ← not_forall_not, not_iff_not]
  constructor
  · intro hzero i ⟨hv, hw⟩
    have hbit : bit (v &&& w) i.val = true := by
      rw [bit, BitVec.getLsbD_and]
      exact (Bool.and_eq_true _ _).mpr ⟨hv, hw⟩
    simp [hzero, bit] at hbit
  · intro hnone
    refine BitVec.eq_of_getLsbD_eq fun i hi => ?_
    rw [BitVec.getLsbD_and, BitVec.ofNat_eq_ofNat, BitVec.getLsbD_zero, ← Bool.not_eq_true, Bool.and_eq_true]
    exact hnone ⟨i, hi⟩

/-- STATUS_FLAGS shows the flags, and RECORD_READY at bit 15 (R175). -/
theorem bit_statusWord (s : State) (i : Fin 16) :
    bit (statusWord s) i.val = true ↔
      bit s.status.flags i.val = true ∨ (i.val = 15 ∧ s.records.threshold.toNat ≤ s.records.queue.length) := by
  have hready : bit (if recordReady s then (0x8000 : Word) else 0) i.val = true ↔
      i.val = 15 ∧ s.records.threshold.toNat ≤ s.records.queue.length := by
    have hlast : ∀ i : Fin 16, bit 0x8000 i.val = true ↔ i.val = 15 := by decide
    by_cases h : s.records.threshold.toNat ≤ s.records.queue.length
    · rw [recordReady, if_pos (decide_eq_true h), hlast, and_iff_left h]
    · simp [recordReady, h, bit]
  rw [← hready]
  simp [statusWord, bit]

/-- The enables stand at every bit but 13 and 14 (10.3). -/
theorem bit_enableBits : ∀ i : Fin 16, bit enableBits i.val = true ↔ i.val ≠ 13 ∧ i.val ≠ 14 := by decide

theorem irqAsserted_iff {s : State} (h : s.inReset = false) :
    irqAsserted s = true ↔ ∃ i : Fin 16, bit (statusWord s) i.val = true ∧ bit s.status.irqEnable i.val = true := by
  rw [← and_ne_zero_iff_exists_bit, irqAsserted, h]
  rfl

/-- R178, R179: IRQn after a write to IRQ_ENABLE. -/
theorem irqAsserted_writeIrqEnable {s : State} (h : s.inReset = false) (w : Word) :
    irqAsserted (writeIrqEnable w s) = true ↔ ∃ i : Fin 16, i.val ≠ 13 ∧ i.val ≠ 14 ∧ bit w i.val = true ∧
      (bit s.status.flags i.val = true ∨ (i.val = 15 ∧ s.records.threshold.toNat ≤ s.records.queue.length)) := by
  have henable (i : Fin 16) : bit (writeIrqEnable w s).status.irqEnable i.val = true ↔
      bit w i.val = true ∧ i.val ≠ 13 ∧ i.val ≠ 14 := by
    rw [← bit_enableBits]
    simp [writeIrqEnable, bit]
  refine (irqAsserted_iff (s := writeIrqEnable w s) h).trans (exists_congr fun i => ?_)
  rw [bit_statusWord, henable]
  exact ⟨fun ⟨hflag, hw, h13, h14⟩ => ⟨h13, h14, hw, hflag⟩, fun ⟨h13, h14, hw, hflag⟩ => ⟨hflag, hw, h13, h14⟩⟩

/-! ### REC_THRESHOLD -/

theorem writeRecThreshold_eq (w : Word) (s : State) :
    writeRecThreshold w s = if 1 ≤ w.toNat ∧ w.toNat ≤ 32 then
        { s with records := { s.records with threshold := w } }
      else writeIgnored s := by
  by_cases h : 1 ≤ w.toNat ∧ w.toNat ≤ 32
  · rw [if_pos h, writeRecThreshold, if_neg (by omega)]
  · rw [if_neg h, writeRecThreshold, if_pos (by omega)]

/-! ### The fields of POLICY -/

theorem guardOf_of_lt {n : Nat} (h : n < 3) : ∃ g, guardOf n = some g ∧ g.code = n := by
  match n, h with
  | 0, _ => exact ⟨.skip, rfl, rfl⟩
  | 1, _ => exact ⟨.hold, rfl, rfl⟩
  | 2, _ => exact ⟨.abort, rfl, rfl⟩

theorem guardPolicy_code_le (g : GuardPolicy) : g.code ≤ 2 := by cases g <;> decide

theorem bits_one_zero (w : Word) : bits w 1 0 = w.toNat % 4 := by simp [bits]

theorem flagNat_bit (w : Word) (i : Nat) : flagNat (bit w i) = w.toNat / 2 ^ i % 2 := by
  rw [flagNat, bit, ← BitVec.testBit_toNat, Nat.testBit_eq_decide_div_mod_eq]
  rcases Nat.mod_two_eq_zero_or_one (w.toNat / 2 ^ i) with h | h <;> simp [h]

theorem policiesOf_faultPolicy_code (w : Word) (old : Policies) :
    (policiesOf w old).faultPolicy.code = flagNat (bit w 2) := by
  rw [policiesOf]
  cases bit w 2 <;> rfl

theorem policiesOf_recordPolicy_code (w : Word) (old : Policies) :
    (policiesOf w old).recordPolicy.code = flagNat (bit w 3) := by
  rw [policiesOf]
  cases bit w 3 <;> rfl

theorem policiesOf_acceptance_code (w : Word) (old : Policies) :
    (policiesOf w old).acceptance.code = flagNat (bit w 4) := by
  rw [policiesOf]
  cases bit w 4 <;> rfl

/-- The policies that a write leaves read back as the bits 2 to 4 of the word written, behind the guard policy's code. -/
theorem policyWord_toNat_of_policiesOf {t : State} {w : Word} {old : Policies} (h : t.policy = policiesOf w old) :
    (policyWord t).toNat = w.toNat / 4 % 8 * 4 + t.policy.guardPolicy.code := by
  have hguard := guardPolicy_code_le t.policy.guardPolicy
  rw [policyWord, word, BitVec.toNat_ofNat]
  rw [h] at hguard ⊢
  rw [policiesOf_acceptance_code, policiesOf_recordPolicy_code, policiesOf_faultPolicy_code, flagNat_bit, flagNat_bit,
    flagNat_bit]
  omega

/-- The mask of the fields behind the guard field, bits 2 to 4. -/
theorem and_0x1C_eq (n : Nat) : n &&& 0x1C = n / 4 % 8 * 4 := by
  have hsmall : ∀ m : Fin 32, m.val &&& 0x1C = m.val / 4 * 4 := by decide
  have hlow := hsmall ⟨n % 32, Nat.mod_lt n (by decide)⟩
  calc n &&& 0x1C = (n &&& 2 ^ 5 - 1) &&& 0x1C := (Nat.and_assoc n 0x1F 0x1C).symm
    _ = n % 32 &&& 0x1C := by rw [Nat.and_two_pow_sub_one_eq_mod]
    _ = n % 32 / 4 * 4 := hlow
    _ = n / 4 % 8 * 4 := by omega

theorem toNat_and_0x1F (w : Word) : (w &&& 0x1F).toNat = w.toNat % 32 :=
  Nat.and_two_pow_sub_one_eq_mod w.toNat 5

/-! ### The write of POLICY -/

theorem writePolicy_of_ne_stopped {s : State} (h : s.seq.state ≠ .stopped) (w : Word) :
    writePolicy w s = writeIgnored s := if_neg h

/-- A guard field that names a guard policy is taken with the other fields. -/
theorem writePolicy_of_guard_lt {s : State} {w : Word} (h : s.seq.state = .stopped) (hguard : w.toNat % 4 < 3) :
    writePolicy w s = { s with policy := policiesOf w s.policy } := by
  obtain ⟨g, hg, _⟩ := guardOf_of_lt hguard
  rw [writePolicy, if_pos h, bits_one_zero, hg]
  rfl

/-- A guard field of 3 is ignored, and the other fields are taken (R95). -/
theorem writePolicy_of_guard_eq {s : State} {w : Word} (h : s.seq.state = .stopped) (hguard : w.toNat % 4 = 3) :
    writePolicy w s = writeIgnored { s with policy := policiesOf w s.policy } := by
  rw [writePolicy, if_pos h, bits_one_zero, hguard]
  rfl

theorem policiesOf_guardPolicy_code {w : Word} (hguard : w.toNat % 4 < 3) (old : Policies) :
    (policiesOf w old).guardPolicy.code = w.toNat % 4 := by
  obtain ⟨g, hg, hcode⟩ := guardOf_of_lt hguard
  rw [policiesOf, bits_one_zero, hg]
  exact hcode

theorem policiesOf_guardPolicy_of_eq {w : Word} (hguard : w.toNat % 4 = 3) (old : Policies) :
    (policiesOf w old).guardPolicy = old.guardPolicy := by
  rw [policiesOf, bits_one_zero, hguard]
  rfl

/-- Every field taken: POLICY reads back as the word written, without its unused bits. -/
theorem policyWord_of_guard_lt {t : State} {w : Word} {old : Policies} (h : t.policy = policiesOf w old)
    (hguard : w.toNat % 4 < 3) : policyWord t = w &&& 0x001F := by
  apply BitVec.eq_of_toNat_eq
  rw [policyWord_toNat_of_policiesOf h, h, policiesOf_guardPolicy_code hguard, toNat_and_0x1F]
  omega

/-- Whatever the guard field, the other fields of POLICY read back as written. -/
theorem policyWord_and_0x1C {t : State} {w : Word} {old : Policies} (h : t.policy = policiesOf w old) :
    policyWord t &&& 0x001C = w &&& 0x001C := by
  have hguard := guardPolicy_code_le t.policy.guardPolicy
  apply BitVec.eq_of_toNat_eq
  calc (policyWord t).toNat &&& 0x1C = (policyWord t).toNat / 4 % 8 * 4 := and_0x1C_eq _
    _ = w.toNat / 4 % 8 * 4 := by rw [policyWord_toNat_of_policiesOf h]; omega
    _ = w.toNat &&& 0x1C := (and_0x1C_eq _).symm

/-- R64, R95, R119: what a write to POLICY takes in STOPPED, by its guard field. -/
theorem exec_policyWrite_stopped {s : State} (hreset : s.inReset = false) (hstopped : s.seq.state = .stopped) (w : Word) :
    ∃ t, exec (.policyWrite w) s = .next t ∧
      (w.toNat % 4 < 3 → policyWord t = w &&& 0x001F ∧ t.status = s.status) ∧
      (w.toNat % 4 = 3 → t.policy.guardPolicy = s.policy.guardPolicy ∧ policyWord t &&& 0x001C = w &&& 0x001C ∧
        t.status = { s.status with flags := s.status.flags ||| writeIgnoredFlag }) ∧
      t = { s with policy := t.policy, status := t.status } := by
  refine ⟨writePolicy w s, exec_policyWrite hreset w, fun hguard => ?_, fun hguard => ?_, ?_⟩
  · rw [writePolicy_of_guard_lt hstopped hguard]
    exact ⟨policyWord_of_guard_lt rfl hguard, rfl⟩
  · rw [writePolicy_of_guard_eq hstopped hguard]
    exact ⟨policiesOf_guardPolicy_of_eq hguard s.policy, policyWord_and_0x1C rfl, rfl⟩
  · rcases Nat.lt_or_ge (w.toNat % 4) 3 with hguard | hguard
    · rw [writePolicy_of_guard_lt hstopped hguard]
    · rw [writePolicy_of_guard_eq hstopped (by omega)]
      rfl

/-- Settles O52, one register at a time. -/
theorem statusAndPolicyWrites : Obligations.StatusAndPolicyWrites := fun s w hreset => by
  refine ⟨exec_statusFlagsWrite hreset w,
    ⟨writeIrqEnable w s, exec_irqEnableWrite hreset w, rfl, irqAsserted_writeIrqEnable hreset w⟩, ?_, fun hstate => ?_,
    fun hstopped => exec_policyWrite_stopped hreset hstopped w⟩
  · rw [exec_recThresholdWrite hreset, writeRecThreshold_eq]
    rfl
  · rw [exec_policyWrite hreset, writePolicy_of_ne_stopped hstate]
    rfl

end Sys2Proof.Proofs
end

section
/-! The step of the block and the safe states: the reset state is safe (O56), a step takes the front command (O1), and a
safe state from which a step leads out of the safe states (O59). -/
namespace Sys2Proof.Proofs
open Sys2Proof.Machine

/-- Settles O1: a step on a queue that is not empty executes its front command. -/
theorem stepTakesFrontCommand : Obligations.StepTakesFrontCommand := fun _ _ _ => rfl

/-! ### The reset state -/

theorem bank_empty_wf : Bank.empty.wf := ⟨fun i r hr => by simp [Bank.empty] at hr, by decide⟩

theorem reset_runSafe : runSafe State.reset := by
  refine ⟨?_, ?_, ?_, ⟨by decide, fun h => absurd rfl h⟩, ?_, ?_⟩
  · unfold holdSafe; decide
  · unfold recordsSafe; decide
  · exact ⟨.inl rfl, rfl, rfl⟩
  · unfold banksSafe; decide
  · unfold bootSafe; decide

/-- Settles O56, one part of the invariant after the other. -/
theorem resetIsSafe : Obligations.ResetIsSafe := by
  refine ⟨?_, ?_, ?_, ?_, Memory.wf_reset, ⟨bank_empty_wf, bank_empty_wf, by decide, by decide⟩, ?_, reset_runSafe,
    fun r hr => absurd hr List.not_mem_nil, fun c hc => absurd hc (by simp [State.reset, Sequencer.reset])⟩
  · unfold channelsSafe Channel.safe; decide
  · unfold exposureSafe; decide
  · unfold triggersSafe; decide
  · unfold flagsSafe; decide
  · unfold storeSafe; decide

/-! ### A waiting request under record policy DROP -/

/-- A step that lights nothing and waits for nothing. -/
def emptyStep : StepRecord := { tag := 0, advance := .immediate, delay := 0, gap := 0, channels := [], syncs := [] }

/-- The order entry of step 0, played once. -/
def stepZeroOnce : OrderEntry := { step := 0, repeatLess1 := 0, haltAfter := false }

/-- A program of one step. -/
def oneStepProgram : Bank := { steps := (Vector.replicate 128 none).set 0 (some emptyStep), order := [stepZeroOnce] }

/-- HELD for record space in MANUAL mode, with a waiting request, under record policy DROP. `stepSafe` ties a reserved place
to record policy HOLD, and says nothing of the policy that a waiting request stands under. -/
def heldUnderDrop : State :=
  { State.reset with
    store := { State.reset.store with boot := .done }
    policy := { State.reset.policy with recordPolicy := .drop }
    tables := { State.reset.tables with bankA := oneStepProgram }
    records := { State.reset.records with waitingRequest := true }
    seq := { State.reset.seq with
      state := .held, hold := .recordSpace, mode := .manual
      context := some (freshContext State.reset stepZeroOnce emptyStep) }
    pending := [.flushRecords] }

theorem oneStepProgram_wf : oneStepProgram.wf := by
  refine ⟨fun i r hr => ?_, by decide⟩
  by_cases hi : i = 0
  · subst hi
    obtain rfl : emptyStep = r := Option.some.inj hr
    decide
  · have hne : (0 : Nat) ≠ i.val := fun h => hi (Fin.ext h.symm)
    simp [oneStepProgram, hne] at hr

theorem heldUnderDrop_runSafe : runSafe heldUnderDrop := by
  refine ⟨?_, ?_, ⟨by decide, by decide, rfl, rfl, by decide, by decide, by decide, by decide⟩,
    ⟨by decide, fun _ => ⟨stepZeroOnce, by decide⟩⟩, ?_, ?_⟩
  · unfold holdSafe; decide
  · unfold recordsSafe; decide
  · unfold banksSafe; decide
  · unfold bootSafe; decide

theorem heldUnderDrop_safe : Inv heldUnderDrop := by
  refine ⟨?_, ⟨by decide, by decide, by decide, ?_⟩, ?_, ?_, Memory.wf_reset,
    ⟨oneStepProgram_wf, bank_empty_wf, by decide, by decide⟩, ?_, heldUnderDrop_runSafe,
    fun r hr => absurd hr List.not_mem_nil, ?_⟩
  · unfold channelsSafe Channel.safe; decide
  · intro c hc
    obtain rfl := Option.some.inj hc
    decide
  · unfold triggersSafe; decide
  · unfold flagsSafe; decide
  · unfold storeSafe; decide
  · intro c hc
    obtain rfl := Option.some.inj hc
    decide

/-- The state after the FLUSH_RECORDS: the waiting request has been granted a place. -/
def grantedUnderDrop : State := takeFlushRecords { heldUnderDrop with pending := [] }

theorem step_heldUnderDrop : step heldUnderDrop = .next grantedUnderDrop := rfl

/-- A safe state holds no reserved place under record policy DROP. -/
theorem reserved_false_of_inv {s : State} (h : Inv s) (hdrop : s.policy.recordPolicy = .drop) :
    s.records.reserved = false := by
  obtain ⟨-, -, -, -, -, -, -, ⟨-, -, hstep, -⟩, -⟩ := h
  unfold stepSafe at hstep
  split at hstep
  · exact hstep.2.1
  · obtain ⟨-, -, -, -, -, -, -, hreserved⟩ := hstep
    simpa [hdrop] using hreserved

/-- Refutes O59: with a request waiting under record policy DROP, which a safe state may hold, FLUSH_RECORDS grants the request
and leaves a place reserved under DROP, which no safe state holds. -/
theorem not_stepKeepsInvariant : ¬ Obligations.StepKeepsInvariant := fun h => by
  have hsafe : Inv grantedUnderDrop := h _ _ heldUnderDrop_safe step_heldUnderDrop
  have hreserved : grantedUnderDrop.records.reserved = true := by decide
  rw [reserved_false_of_inv hsafe (by decide)] at hreserved
  exact Bool.false_ne_true hreserved

end Sys2Proof.Proofs
end

section
/-! What every command keeps of the hardware. A predicate that looks at the channels, the store's images and the reset line
alone, and that survives the closing of all gates and the opening of gates of enabled and unlocked channels, survives every
command of the Sequencer: the induction over the life of a step is made once here, for the channels (O57) and for the images
(O58) alike. -/
namespace Sys2Proof.Proofs
open Sys2Proof.Machine

/-- Two states agree on the reset line, the channels and the store's images. -/
def sameHardware (s t : State) : Prop :=
  t.inReset = s.inReset ∧ t.channels.channel = s.channels.channel ∧ t.store.array.images = s.store.array.images

/-- A predicate that the Sequencer keeps: it looks at the hardware of `sameHardware` alone, and survives the closing of all
gates and the lighting of channels that are enabled and not locked. -/
structure KeptByRuns (p : State → Prop) : Prop where
  of_same : ∀ {s t : State}, p s → sameHardware s t → p t
  closeGates : ∀ {s : State}, p s → p (closeGates s)
  lightChannels : ∀ {lit : ChannelMask} {es : List ChannelEntry} {s : State},
    (∀ i : Fin 8, inMask lit i = true →
      (s.channels.channel[i]).enabled = true ∧ (s.channels.channel[i]).locked = false) →
    p s → p (lightChannels lit es s)

/-! ### The life of a step -/

theorem creditCheck_start_lit {s : State} {c : StepContext} {lit skipped : ChannelMask}
    (h : creditCheck s c = .start lit skipped) : lit = classMask s c .satisfied := by
  unfold creditCheck at h
  dsimp only at h
  repeat' split at h
  all_goals cases h
  all_goals rfl

/-- R88: what a credit check lights is enabled and not locked. -/
theorem satisfied_enabled_unlocked (s : State) (c : StepContext) (i : Fin 8)
    (h : inMask (classMask s c .satisfied) i = true) :
    (s.channels.channel[i]).enabled = true ∧ (s.channels.channel[i]).locked = false := by
  obtain ⟨e, -, rfl, hclass⟩ := (inMask_classMask s c .satisfied i).mp h
  obtain ⟨-, hlocked, henabled, -⟩ := (classify_satisfied s c e).mp hclass
  exact ⟨henabled, hlocked⟩

section
variable {p : State → Prop} (hp : KeptByRuns p)
include hp

theorem stopSequencer_kept (why : StopReason) {s : State} (h : p s) : p (stopSequencer why s) :=
  hp.of_same (hp.closeGates h) ⟨by simp, by simp, by simp⟩

theorem afterCheck_kept (c : StepContext) {s : State} (h : p s) : p (afterCheck c s) := by
  have hraise : p (raiseShortage c s) := hp.of_same h ⟨by simp, by simp, by simp⟩
  rcases afterCheck_cases c s with ⟨lit, _, hstart, heq⟩ | ⟨_, _, _, heq⟩ | ⟨_, _, _, heq⟩ | ⟨_, heq⟩ <;> rw [heq]
  · have hlit : ∀ i : Fin 8, inMask lit i = true →
        ((raiseShortage c s).channels.channel[i]).enabled = true ∧
          ((raiseShortage c s).channels.channel[i]).locked = false := fun i hi => by
      rw [raiseShortage_channels]
      exact satisfied_enabled_unlocked s c i (creditCheck_start_lit hstart ▸ hi)
    refine hp.of_same (hp.lightChannels (es := (checkedContext c s).record.channels) hlit hraise) ⟨by simp, ?_, by simp⟩
    simp [startExposure, lightChannel, entryCost, entryLevel]
  · exact hp.of_same hraise ⟨rfl, rfl, rfl⟩
  · exact hp.of_same hraise ⟨rfl, rfl, rfl⟩
  · exact stopSequencer_kept hp _ hraise

theorem tryExposure_kept {s : State} (h : p s) : p (tryExposure s) := by
  rcases tryExposure_cases s with heq | ⟨c, _, _, _, _, heq⟩ <;> rw [heq]
  · exact h
  · exact afterCheck_kept hp c h

theorem recheck_kept {s : State} (h : p s) : p (recheck s) := by
  rcases recheck_cases s with heq | ⟨c, _, _, _, heq⟩ <;> rw [heq]
  · exact h
  · exact afterCheck_kept hp c h

theorem beginStep_kept (source : Option Source) (manual : Bool) (reference : Time) (c : StepContext) {s : State}
    (h : p s) : p (beginStep source manual reference c s) := by
  unfold beginStep
  exact tryExposure_kept hp (hp.of_same h ⟨rfl, rfl, rfl⟩)

theorem serve_kept (mask : SourceMask) (c : StepContext) {s : State} (h : p s) : p (serve mask c s) := by
  unfold serve
  split
  · exact h
  · exact beginStep_kept hp _ _ _ _ (hp.of_same h ⟨rfl, rfl, rfl⟩)

theorem enterWaiting_kept (c : StepContext) {s : State} (h : p s) : p (enterWaiting c s) := by
  have hwait := hp.of_same h (t := { s with seq := { s.seq with state := .waiting, hold := .none, holdTimer := none } })
    ⟨rfl, rfl, rfl⟩
  rcases enterWaiting_cases c s with ⟨_, heq⟩ | ⟨_, _, heq⟩ | ⟨_, _, _, heq⟩ <;> rw [heq]
  · exact hwait
  · exact beginStep_kept hp _ _ _ _ hwait
  · exact serve_kept hp _ _ hwait

theorem makeEntry_kept {s : State} (h : p s) : p (makeEntry s) := by
  rcases makeEntry_cases s with ⟨_, heq⟩ | ⟨_, _, _, ⟨_, _, heq⟩ | ⟨_, _, heq⟩ | ⟨_, heq⟩⟩ <;> rw [heq]
  · exact h
  · exact enterWaiting_kept hp _ (hp.of_same h ⟨rfl, rfl, rfl⟩)
  · exact hp.of_same h ⟨rfl, rfl, rfl⟩
  · exact enterWaiting_kept hp _ (hp.of_same h ⟨rfl, rfl, rfl⟩)

theorem grantWaiting_kept {s : State} (h : p s) : p (grantWaiting s) := by
  have hgrant := hp.of_same h (t := { s with records := { s.records with reserved := true, waitingRequest := false } })
    ⟨rfl, rfl, rfl⟩
  unfold grantWaiting
  split
  · dsimp only
    split
    · exact enterWaiting_kept hp _ hgrant
    · exact hgrant
  · exact h

theorem goOn_kept (halt : Bool) {s : State} (h : p s) : p (goOn halt s) := by
  unfold goOn
  split
  · exact hp.of_same h ⟨rfl, rfl, rfl⟩
  · exact makeEntry_kept hp h

theorem completeStep_kept (c : StepContext) {s : State} (h : p s) : p (completeStep c s) := by
  have hboundary : ∀ q : Sequencer, p (passBoundary { emit .done c s with seq := q }) := fun q =>
    hp.of_same h ⟨by simp [passBoundary], by simp [passBoundary], by simp [passBoundary]⟩
  unfold completeStep
  dsimp only
  split
  · exact goOn_kept hp _ (hp.of_same h ⟨by simp, by simp, by simp⟩)
  · split
    · exact goOn_kept hp _ (hp.of_same h ⟨by simp, by simp, by simp⟩)
    · split
      · exact stopSequencer_kept hp _ (hboundary _)
      · exact goOn_kept hp _ (hboundary _)

theorem serveWaiting_kept {s : State} (h : p s) : p (serveWaiting s) := by
  unfold serveWaiting
  repeat' split
  · exact serve_kept hp _ _ h
  all_goals exact h

theorem arrive_kept (source : Source) {s : State} (h : p s) : p (arrive source s) := by
  rcases arrive_cases source s with ⟨_, heq⟩ | ⟨_, _, heq⟩ | ⟨_, _, heq⟩ <;> rw [heq]
  · exact hp.of_same h ⟨rfl, rfl, rfl⟩
  · exact serveWaiting_kept hp (hp.of_same h ⟨rfl, rfl, rfl⟩)
  · exact hp.of_same h ⟨rfl, rfl, rfl⟩

/-! ### Taking a command, an event or a read -/

theorem takeCommand_kept {code : Word} {args : Bool} {refusal : Option (ResultCode × Word)} {effect : State → State}
    {s : State} (he : args = true → refusal = none → p (verdict code .accepted 0 s) →
      p (effect (verdict code .accepted 0 s))) (h : p s) : p (takeCommand code args refusal effect s) :=
  have hverdict : ∀ r d, p (verdict code r d s) := fun _ _ => hp.of_same h ⟨rfl, rfl, rfl⟩
  takeCommand_keeps h hverdict fun _ _ hargs hrefusal => he hargs hrefusal (hverdict _ _)

/-- A command whose effect leaves the hardware as it is. -/
theorem takeCommand_kept_of_same {code : Word} {args : Bool} {refusal : Option (ResultCode × Word)}
    {effect : State → State} (he : ∀ t, sameHardware t (effect t)) {s : State} (h : p s) :
    p (takeCommand code args refusal effect s) :=
  takeCommand_kept hp (fun _ _ hverdict => hp.of_same hverdict (he _)) h

omit hp in
theorem outOfReset_kept {effect : State → State} {s : State} (he : s.inReset = false → p s → p (effect s)) (h : p s) :
    p (outOfReset effect s) := by
  cases hr : s.inReset
  · rw [outOfReset_released hr]
    exact he hr h
  · rwa [outOfReset_asserted hr]

theorem readAccess_kept {value : State → Word} {effect : State → State} {s : State} (he : p s → p (effect s)) (h : p s) :
    p (readAccess value effect s) := by
  cases hr : s.inReset
  · rw [readAccess_released hr]
    exact hp.of_same (he h) ⟨rfl, rfl, rfl⟩
  · rw [readAccess_asserted hr]
    exact hp.of_same h ⟨rfl, rfl, rfl⟩

end

end Sys2Proof.Proofs
end

section
/-! What every command keeps of the hardware, continued: the commands and events, with those that write the channels or the
images taken as hypotheses, and from them the step. -/
namespace Sys2Proof.Proofs
open Sys2Proof.Machine

/-- A predicate that the Sequencer keeps, and with it each command or event that writes the channels or the images. -/
structure KeptByHardware (p : State → Prop) : Prop extends KeptByRuns p where
  chEnable : ∀ (w : Word) {s : State}, p s → p (writeChEnable w s)
  chCeiling : ∀ (w : Word) {s : State}, p s → p (writeChCeiling w s)
  chTrim : ∀ (w : Word) {s : State}, p s → p (writeChTrim w s)
  chRate : ∀ (w : Word) {s : State}, p s → p (writeChRate w s)
  unlock : ∀ {s : State}, p s → p (takeUnlockChannel s)
  fault : ∀ (n : Fin 8) {s : State}, p s → p (assertFault n s)
  faultFall : ∀ (n : Fin 8) {s : State}, p s → p (setFaultLine n false s)
  closeGate : ∀ (n : Fin 8) {s : State}, p s → p (closeGate n s)
  refill : ∀ {s : State}, p s → p (refill s)
  image : ∀ (slot : Fin 6) (k : Nat) (ws : List Word) {s : State}, p s → p (setImageSector slot k ws s)
  storedWord : ∀ (place : StoredWord) (flip : Word) {s : State}, p s → p (changeStoredWord place flip s)
  reset : ∀ {s : State}, p s → p (resetBlocks s)
  resetEnd : ∀ {s : State}, p s → p (releaseReset s)

section
variable {p : State → Prop} (hp : KeptByHardware p)
include hp

/-! ### Run control -/

theorem startRun_kept (mode : RunMode) (passes : Word) (fromBegin : Bool) {s : State} (h : p s) :
    p (startRun mode passes fromBegin s) := by
  unfold startRun
  exact makeEntry_kept hp.toKeptByRuns (hp.of_same h ⟨rfl, rfl, rfl⟩)

theorem pauseEffect_kept {s : State} (h : p s) : p (pauseEffect s) := by
  unfold pauseEffect
  split <;> exact hp.of_same h ⟨rfl, rfl, rfl⟩

theorem stepEffect_kept {s : State} (h : p s) : p (stepEffect s) := by
  unfold stepEffect
  split
  · exact beginStep_kept hp.toKeptByRuns _ _ _ _ h
  · exact h

/-! ### The Recipe Store -/

theorem takeSave_kept {s : State} (h : p s) : p (takeSave s) :=
  takeCommand_kept_of_same hp.toKeptByRuns (fun _ => by exact ⟨rfl, rfl, rfl⟩) h

theorem takeLoad_kept {s : State} (h : p s) : p (takeLoad s) :=
  takeCommand_kept_of_same hp.toKeptByRuns (fun _ => by simp [sameHardware, startLoad]) h

theorem takeErase_kept {s : State} (h : p s) : p (takeErase s) :=
  takeCommand_kept_of_same hp.toKeptByRuns (fun _ => by exact ⟨rfl, rfl, rfl⟩) h

theorem takeSetStartup_kept {s : State} (h : p s) : p (takeSetStartup s) :=
  takeCommand_kept_of_same hp.toKeptByRuns (fun _ => by exact ⟨rfl, rfl, rfl⟩) h

theorem takeAbortStore_kept {s : State} (h : p s) : p (takeAbortStore s) :=
  takeCommand_kept_of_same hp.toKeptByRuns (fun _ => by exact ⟨rfl, rfl, rfl⟩) h

theorem endOperation_kept (o : StoreOutcome) {s : State} (h : p s) : p (endOperation o s) := by
  unfold endOperation
  dsimp only
  split <;> exact hp.of_same h ⟨rfl, rfl, rfl⟩

theorem endWithSlot_kept (slot : Fin 6) (state : SlotState) (o : StoreOutcome) {s : State} (h : p s) :
    p (endWithSlot slot state o s) := by
  unfold endWithSlot
  exact endOperation_kept hp o (hp.of_same h ⟨rfl, rfl, rfl⟩)

theorem setJob_kept (j : StoreJob) {s : State} (h : p s) : p (setJob j s) := hp.of_same h ⟨rfl, rfl, rfl⟩

theorem setHeader_kept (slot : Fin 6) (header : HeaderSector) {s : State} (h : p s) : p (setHeader slot header s) :=
  hp.of_same h ⟨rfl, rfl, rfl⟩

theorem setStartupSector_kept (copy : Fin 2) (sector : StartupSector) {s : State} (h : p s) :
    p (setStartupSector copy sector s) := hp.of_same h ⟨rfl, rfl, rfl⟩

theorem takeFree_kept {s : State} (h : p s) : p (takeFree s) := hp.of_same h ⟨rfl, rfl, rfl⟩

theorem eraseSector_kept (slot : Fin 6) (sector : Nat) (verified : Bool) {s : State} (h : p s) :
    p (eraseSector slot sector verified s) := by
  unfold eraseSector
  repeat' split
  · exact setHeader_kept hp _ _ h
  · exact hp.image _ _ _ h
  · exact takeFree_kept hp (setHeader_kept hp _ _ h)
  · exact takeFree_kept hp (hp.image _ _ _ h)

theorem eraseAttempt_kept (verified : Bool) {s : State} (h : p s) : p (eraseAttempt verified s) := by
  unfold eraseAttempt
  dsimp only
  split
  · have hsector := fun slot sector => eraseSector_kept hp slot sector verified h
    repeat' split
    · exact endWithSlot_kept hp _ _ _ (hsector _ _)
    · exact setJob_kept hp _ (hsector _ _)
    · exact setJob_kept hp _ (hsector _ _)
    · exact endWithSlot_kept hp _ _ _ (hsector _ _)
    · exact setJob_kept hp _ (hsector _ _)
  · have hsector := fun slot sector => eraseSector_kept hp slot sector verified h
    repeat' split
    · exact endWithSlot_kept hp _ _ _ (hsector _ _)
    · exact endWithSlot_kept hp _ _ _ (hsector _ _)
    · exact setJob_kept hp _ (hsector _ _)
    · exact endWithSlot_kept hp _ _ _ (hsector _ _)
    · exact setJob_kept hp _ (hsector _ _)
  · have hsector := fun target sector => setStartupSector_kept hp target sector h
    repeat' split
    · exact endOperation_kept hp _ (hsector _ _)
    · exact setJob_kept hp _ (hsector _ _)
    · exact endOperation_kept hp _ (hsector _ _)
    · exact setJob_kept hp _ (hsector _ _)
  · exact h

theorem programPart_kept (slot : Fin 6) (b : Bank) (label : Word) (generation : BitVec 32) (part : Nat) {s : State}
    (h : p s) : p (programPart slot b label generation part s) := by
  unfold programPart
  repeat' split
  · exact setHeader_kept hp _ _ h
  · exact hp.image _ _ _ h
  · exact setHeader_kept hp _ _ h

theorem leftByProgram_kept (slot : Fin 6) (part : Nat) {s : State} (h : p s) : p (leftByProgram slot part s) := by
  unfold leftByProgram
  repeat' split
  · exact takeFree_kept hp h
  · exact takeFree_kept hp (setHeader_kept hp _ _ h)
  · exact takeFree_kept hp (hp.image _ _ _ h)
  · exact h

theorem programStep_kept (verified : Bool) {s : State} (h : p s) : p (programStep verified s) := by
  unfold programStep
  dsimp only
  split
  · have hpart := fun slot b label generation part => programPart_kept hp slot b label generation part h
    repeat' split
    · exact endOperation_kept hp _ (hp.of_same (hpart _ _ _ _ _) ⟨rfl, rfl, rfl⟩)
    · exact endWithSlot_kept hp _ _ _ (hpart _ _ _ _ _)
    · exact setJob_kept hp _ (hpart _ _ _ _ _)
    · exact endWithSlot_kept hp _ _ _ (leftByProgram_kept hp _ _ h)
  · split
    · exact endOperation_kept hp _ (hp.of_same h ⟨rfl, rfl, rfl⟩)
    · exact endOperation_kept hp _ (setStartupSector_kept hp _ _ h)
  · exact h

theorem loadSector_kept (q : LoadProgress) {s : State} (h : p s) : p (loadSector q s) := hp.of_same h ⟨rfl, rfl, rfl⟩

theorem loadStep_kept (q : LoadProgress) {s : State} (h : p s) : p (loadStep q s) := by
  have hsector := loadSector_kept hp q h
  unfold loadStep
  dsimp only
  repeat' split
  · exact endOperation_kept hp _ (hp.of_same hsector ⟨rfl, rfl, rfl⟩)
  · exact endWithSlot_kept hp _ _ _ hsector
  · exact endOperation_kept hp _ hsector
  · exact setJob_kept hp _ hsector

theorem cutOffStep_kept {s : State} (h : p s) : p (cutOffStep s) := by
  have herase : ∀ slot sector, p (cutOffErase slot sector s) := fun slot sector => by
    unfold cutOffErase
    repeat' split
    · exact takeFree_kept hp (setHeader_kept hp _ _ h)
    · exact takeFree_kept hp h
    · exact takeFree_kept hp (setHeader_kept hp _ _ h)
    · exact takeFree_kept hp (hp.image _ _ _ h)
  unfold cutOffStep
  split
  · exact herase _ _
  · unfold cutOffProgram
    repeat' split
    · exact takeFree_kept hp (programPart_kept hp _ _ _ _ _ h)
    · exact takeFree_kept hp (setHeader_kept hp _ _ h)
    · exact takeFree_kept hp (hp.image _ _ _ h)
    · exact takeFree_kept hp h
  · exact herase _ _
  · unfold cutOffStartup
    split <;> exact takeFree_kept hp (setStartupSector_kept hp _ _ h)
  · exact h
  · exact h

/-! ### The scan and the boot -/

theorem autorun_kept {s : State} (h : p s) : p (autorun s) := by
  unfold autorun
  split
  · exact h
  · exact startRun_kept hp _ _ _ h
  · exact startRun_kept hp _ _ _ h

theorem endBoot_kept (o : BootOutcome) {s : State} (h : p s) : p (endBoot o s) := hp.of_same h ⟨rfl, rfl, rfl⟩

theorem bootCommit_kept {s : State} (h : p s) : p (bootCommit s) := by
  unfold bootCommit
  split
  · exact endBoot_kept hp _ h
  · exact autorun_kept hp (endBoot_kept hp _ (hp.of_same h ⟨by simp, by simp, by simp⟩))

theorem bootLoadStep_kept (q : LoadProgress) {s : State} (h : p s) : p (bootLoadStep q s) := by
  have hsector := loadSector_kept hp q h
  unfold bootLoadStep
  dsimp only
  repeat' split
  · exact bootCommit_kept hp (hp.of_same hsector ⟨rfl, rfl, rfl⟩)
  · exact endBoot_kept hp _ (hp.of_same hsector ⟨rfl, rfl, rfl⟩)
  · exact hp.of_same hsector ⟨rfl, rfl, rfl⟩

theorem startBoot_kept {s : State} (h : p s) : p (startBoot s) := by
  unfold startBoot
  repeat' split
  all_goals exact hp.of_same h ⟨rfl, rfl, rfl⟩

theorem judgeSlot_kept (slot : Fin 6) (e : DirectoryEntry) {s : State} (h : p s) : p (judgeSlot slot e s) := by
  unfold judgeSlot nextInScan
  split <;> exact hp.of_same h ⟨rfl, rfl, rfl⟩

theorem scanHeader_kept (slot : Fin 6) {s : State} (h : p s) : p (scanHeader slot s) := by
  unfold scanHeader
  repeat' split
  · exact judgeSlot_kept hp _ _ h
  · exact judgeSlot_kept hp _ _ h
  · exact judgeSlot_kept hp _ _ h
  · exact hp.of_same h ⟨rfl, rfl, rfl⟩
  · exact judgeSlot_kept hp _ _ h
  · exact judgeSlot_kept hp _ _ h

theorem scanImage_kept (slot : Fin 6) (w : HeaderWords) (n : Nat) (words : List Word) {s : State} (h : p s) :
    p (scanImage slot w n words s) := by
  unfold scanImage
  dsimp only
  repeat' split
  · exact hp.of_same h ⟨rfl, rfl, rfl⟩
  · exact judgeSlot_kept hp _ _ h
  · exact judgeSlot_kept hp _ _ h

theorem sectorRead_kept {s : State} (h : p s) : p (sectorRead s) := by
  unfold sectorRead
  split
  · exact scanHeader_kept hp _ h
  · exact scanImage_kept hp _ _ _ _ h
  · exact hp.of_same h ⟨rfl, rfl, rfl⟩
  · unfold scanStartup55
    exact startBoot_kept hp (hp.of_same h ⟨rfl, rfl, rfl⟩)
  · exact bootLoadStep_kept hp _ h
  · split
    · exact loadStep_kept hp _ h
    · exact h

/-! ### Pin events and timed events -/

theorem senseEdge_kept (i : Fin 4) (level : Bool) {s : State} (h : p s) : p (senseEdge i level s) := by
  unfold senseEdge
  dsimp only
  repeat' split
  · exact hp.of_same h ⟨rfl, rfl, rfl⟩
  · exact hp.of_same h ⟨rfl, rfl, rfl⟩
  · exact arrive_kept hp.toKeptByRuns _ (hp.of_same h ⟨rfl, rfl, rfl⟩)

theorem closeWindow_kept (i : Fin 4) {s : State} (h : p s) : p (closeWindow i s) := by
  unfold closeWindow
  repeat' split
  · exact hp.of_same h ⟨rfl, rfl, rfl⟩
  all_goals exact h

theorem millisecond_kept {s : State} (h : p s) : p (millisecond s) := by
  unfold millisecond
  split
  · have hchecked := recheck_kept hp.toKeptByRuns (hp.refill (hp.of_same h
      (t := { s with timebase := { s.timebase with msDue := false } }) ⟨rfl, rfl, rfl⟩))
    unfold countHold
    split
    · exact hp.of_same hchecked ⟨rfl, rfl, rfl⟩
    · exact hchecked
  · exact h

theorem expireHold_kept {s : State} (h : p s) : p (expireHold s) := by
  unfold expireHold
  split
  · exact stopSequencer_kept hp.toKeptByRuns _ h
  · exact h

theorem reachDue_kept {s : State} (h : p s) : p (reachDue s) := by
  unfold reachDue
  repeat' split
  · exact tryExposure_kept hp.toKeptByRuns (hp.of_same h ⟨rfl, rfl, rfl⟩)
  all_goals exact h

theorem endGap_kept {s : State} (h : p s) : p (endGap s) := by
  unfold endGap
  repeat' split
  · exact completeStep_kept hp.toKeptByRuns _ h
  all_goals exact h

/-! ### Sync outputs -/

theorem writeSyncConfig_kept (w : Word) {s : State} (h : p s) : p (writeSyncConfig w s) := by
  unfold writeSyncConfig
  dsimp only
  refine tryExposure_kept hp.toKeptByRuns (hp.of_same h ?_)
  split <;> exact ⟨by simp [applySyncConfig], by simp [applySyncConfig], by simp [applySyncConfig]⟩

theorem startPulse_kept (i : Fin 4) {s : State} (h : p s) : p (startPulse i s) := by
  unfold startPulse
  repeat' split
  · exact hp.of_same h ⟨rfl, rfl, rfl⟩
  all_goals exact h

theorem endPulse_kept (i : Fin 4) {s : State} (h : p s) : p (endPulse i s) := by
  unfold endPulse
  dsimp only
  repeat' split
  · exact hp.of_same h ⟨by simp, by simp, by simp⟩
  · exact tryExposure_kept hp.toKeptByRuns (hp.of_same h ⟨rfl, rfl, rfl⟩)
  all_goals exact h

/-! ### The Table Port -/

theorem portError_kept (e : PortError) (w : Word) {s : State} (h : p s) : p (portError e w s) :=
  hp.of_same h ⟨rfl, rfl, rfl⟩

omit hp in
theorem closeSession_sameHardware (s : State) : sameHardware s (closeSession s) := ⟨by simp, by simp, by simp⟩

omit hp in
theorem openSession_sameHardware (kind : SessionKind) (table : TableKind) (bank : BankRole) (start : Nat) (s : State) :
    sameHardware s (openSession kind table bank start s) := by
  unfold openSession
  dsimp only
  split
  · exact ⟨rfl, rfl, rfl⟩
  · exact ⟨by simp, by simp, by simp⟩

theorem pastEnd_kept {s : State} (h : p s) : p (pastEnd s) := by
  unfold pastEnd
  split
  · exact h
  · exact hp.of_same h ⟨rfl, rfl, rfl⟩

theorem completeRecord_kept (ws : List Word) {s : State} (h : p s) : p (completeRecord ws s) := by
  unfold completeRecord storeStep
  repeat' split
  all_goals exact hp.of_same h ⟨rfl, rfl, rfl⟩

theorem stepWord_kept (w : Word) {s : State} (h : p s) : p (stepWord w s) := by
  unfold stepWord headerWord
  repeat' split
  · exact pastEnd_kept hp h
  · exact hp.of_same h ⟨rfl, rfl, rfl⟩
  · exact hp.of_same h ⟨rfl, rfl, rfl⟩
  · exact hp.of_same h ⟨rfl, rfl, rfl⟩
  · exact completeRecord_kept hp _ h

theorem orderWord_kept (w : Word) {s : State} (h : p s) : p (orderWord w s) := by
  unfold orderWord
  dsimp only
  repeat' split
  · exact pastEnd_kept hp h
  all_goals exact hp.of_same h ⟨rfl, rfl, rfl⟩

theorem writeTpData_kept (w : Word) {s : State} (h : p s) : p (writeTpData w s) := by
  unfold writeTpData
  repeat' split
  · exact portError_kept hp _ _ h
  · exact portError_kept hp _ _ h
  · exact h
  · exact stepWord_kept hp w h
  · exact orderWord_kept hp w h

theorem advanceRead_kept {s : State} (h : p s) : p (advanceRead s) := by
  unfold advanceRead
  repeat' split
  · exact portError_kept hp _ _ h
  · exact portError_kept hp _ _ h
  · exact portError_kept hp _ _ h
  · exact h
  · exact hp.of_same h ⟨rfl, rfl, rfl⟩
  · exact hp.of_same h ⟨rfl, rfl, rfl⟩
  · exact h
  · exact hp.of_same h ⟨rfl, rfl, rfl⟩

/-! ### The configuration registers -/

theorem writeRecThreshold_kept (w : Word) {s : State} (h : p s) : p (writeRecThreshold w s) := by
  unfold writeRecThreshold
  split <;> exact hp.of_same h ⟨rfl, rfl, rfl⟩

theorem writePolicy_kept (w : Word) {s : State} (h : p s) : p (writePolicy w s) := by
  unfold writePolicy
  dsimp only
  repeat' split
  all_goals exact hp.of_same h ⟨rfl, rfl, rfl⟩

theorem writeChSelect_kept (w : Word) {s : State} (h : p s) : p (writeChSelect w s) := by
  unfold writeChSelect
  split <;> exact hp.of_same h ⟨rfl, rfl, rfl⟩

theorem writeDirSelect_kept (w : Word) {s : State} (h : p s) : p (writeDirSelect w s) := by
  unfold writeDirSelect
  split <;> exact hp.of_same h ⟨rfl, rfl, rfl⟩

theorem writeCntSelect_kept (w : Word) {s : State} (h : p s) : p (writeCntSelect w s) := by
  unfold writeCntSelect
  split <;> exact hp.of_same h ⟨rfl, rfl, rfl⟩

/-! ### The commands -/

theorem takeRun_kept {s : State} (h : p s) : p (takeRun s) :=
  takeCommand_kept hp.toKeptByRuns (fun _ _ hv => startRun_kept hp _ _ _ hv) h

theorem takeStop_kept {s : State} (h : p s) : p (takeStop s) :=
  takeCommand_kept hp.toKeptByRuns (fun _ _ hv => stopSequencer_kept hp.toKeptByRuns _ hv) h

theorem takePause_kept {s : State} (h : p s) : p (takePause s) :=
  takeCommand_kept hp.toKeptByRuns (fun _ _ hv => pauseEffect_kept hp hv) h

theorem takeResume_kept {s : State} (h : p s) : p (takeResume s) :=
  takeCommand_kept hp.toKeptByRuns (fun _ _ hv => makeEntry_kept hp.toKeptByRuns hv) h

theorem takeStep_kept {s : State} (h : p s) : p (takeStep s) :=
  takeCommand_kept hp.toKeptByRuns (fun _ _ hv => stepEffect_kept hp hv) h

theorem takeSoftTrigger_kept {s : State} (h : p s) : p (takeSoftTrigger s) :=
  takeCommand_kept hp.toKeptByRuns (fun _ _ hv => arrive_kept hp.toKeptByRuns _ hv) h

theorem takeCommit_kept {s : State} (h : p s) : p (takeCommit s) :=
  takeCommand_kept_of_same hp.toKeptByRuns (fun _ => by
    unfold commitEffect
    split
    · exact ⟨by simp, by simp, by simp⟩
    · exact ⟨rfl, rfl, rfl⟩) h

theorem takeCancelCommit_kept {s : State} (h : p s) : p (takeCancelCommit s) :=
  takeCommand_kept_of_same hp.toKeptByRuns (fun _ => by exact ⟨rfl, rfl, rfl⟩) h

omit hp in
theorem replaceStaging_sameHardware (b : Bank) (s : State) : sameHardware s (replaceStaging b s) := by
  simp [sameHardware, replaceStaging]

theorem takeCopyActive_kept {s : State} (h : p s) : p (takeCopyActive s) :=
  takeCommand_kept_of_same hp.toKeptByRuns (fun _ => replaceStaging_sameHardware _ _) h

theorem takeClearStaging_kept {s : State} (h : p s) : p (takeClearStaging s) :=
  takeCommand_kept_of_same hp.toKeptByRuns (fun _ => replaceStaging_sameHardware _ _) h

theorem takeOpenLoad_kept {s : State} (h : p s) : p (takeOpenLoad s) :=
  takeCommand_kept_of_same hp.toKeptByRuns (fun _ => openSession_sameHardware _ _ _ _ _) h

theorem takeOpenRead_kept {s : State} (h : p s) : p (takeOpenRead s) :=
  takeCommand_kept_of_same hp.toKeptByRuns (fun _ => openSession_sameHardware _ _ _ _ _) h

theorem takeClosePort_kept {s : State} (h : p s) : p (takeClosePort s) :=
  takeCommand_kept_of_same hp.toKeptByRuns closeSession_sameHardware h

theorem takePulseSync_kept {s : State} (h : p s) : p (takePulseSync s) :=
  takeCommand_kept_of_same hp.toKeptByRuns (fun _ => by exact ⟨rfl, rfl, rfl⟩) h

theorem takeFlushRecords_kept {s : State} (h : p s) : p (takeFlushRecords s) :=
  takeCommand_kept hp.toKeptByRuns (fun _ _ hv => grantWaiting_kept hp.toKeptByRuns
    (hp.of_same hv ⟨rfl, rfl, rfl⟩)) h

theorem popRecord_kept {s : State} (h : p s) : p (popRecord s) := by
  unfold popRecord
  split
  · exact h
  · exact grantWaiting_kept hp.toKeptByRuns (hp.of_same h ⟨rfl, rfl, rfl⟩)

theorem takeClearCounters_kept {s : State} (h : p s) : p (takeClearCounters s) :=
  takeCommand_kept_of_same hp.toKeptByRuns (fun _ => by exact ⟨rfl, rfl, rfl⟩) h

omit hp in
theorem softResetEffect_sameHardware (s : State) : sameHardware (closeGates s) (softResetEffect s) := by
  unfold softResetEffect softAbort
  dsimp only
  split <;> exact ⟨rfl, rfl, rfl⟩

theorem takeSoftReset_kept {s : State} (h : p s) : p (takeSoftReset s) :=
  takeCommand_kept hp.toKeptByRuns
    (fun _ _ hv => hp.of_same (hp.closeGates hv) (softResetEffect_sameHardware _)) h

theorem takeUnknown_kept (code : Word) {s : State} (h : p s) : p (takeUnknown code s) :=
  outOfReset_kept (fun _ h => hp.of_same h ⟨rfl, rfl, rfl⟩) h

/-! ### The register window and every command -/

theorem writeCommand_kept (code : Word) {s : State} (h : p s) : p (writeCommand code s) := by
  unfold writeCommand
  split
  · exact takeRun_kept hp h
  · exact takeStop_kept hp h
  · exact takePause_kept hp h
  · exact takeResume_kept hp h
  · exact takeStep_kept hp h
  · exact takeSoftTrigger_kept hp h
  · exact takeCommit_kept hp h
  · exact takeCancelCommit_kept hp h
  · exact takeCopyActive_kept hp h
  · exact takeClearStaging_kept hp h
  · exact takeOpenLoad_kept hp h
  · exact takeOpenRead_kept hp h
  · exact takeClosePort_kept hp h
  · exact hp.unlock h
  · exact takePulseSync_kept hp h
  · exact takeFlushRecords_kept hp h
  · exact takeClearCounters_kept hp h
  · exact takeSave_kept hp h
  · exact takeLoad_kept hp h
  · exact takeErase_kept hp h
  · exact takeSetStartup_kept hp h
  · exact takeAbortStore_kept hp h
  · exact takeSoftReset_kept hp h
  · exact takeUnknown_kept hp _ h

theorem writeRegister_kept (addr : BitVec 6) (w : Word) {s : State} (h : p s) : p (writeRegister addr w s) := by
  unfold writeRegister
  split
  case h_1 => exact writeCommand_kept hp w h
  case h_8 => exact writeTpData_kept hp w h
  case h_16 => exact writePolicy_kept hp w h
  case h_17 => exact hp.chEnable w h
  case h_18 => exact writeChSelect_kept hp w h
  case h_19 => exact hp.chTrim w h
  case h_20 => exact hp.chCeiling w h
  case h_21 => exact hp.chRate w h
  case h_22 => exact writeSyncConfig_kept hp w h
  case h_23 => exact writeRecThreshold_kept hp w h
  case h_24 => exact writeDirSelect_kept hp w h
  case h_25 => exact writeCntSelect_kept hp w h
  case h_26 => exact h
  all_goals exact hp.of_same h ⟨rfl, rfl, rfl⟩

theorem exec_kept {c : Instr} {s t : State} (h : p s) (hexec : exec c s = .next t) : p t := by
  cases c <;> cases hexec
  case run => exact takeRun_kept hp h
  case stop => exact takeStop_kept hp h
  case pause => exact takePause_kept hp h
  case resume => exact takeResume_kept hp h
  case step => exact takeStep_kept hp h
  case softTrigger => exact takeSoftTrigger_kept hp h
  case commit => exact takeCommit_kept hp h
  case cancelCommit => exact takeCancelCommit_kept hp h
  case copyActive => exact takeCopyActive_kept hp h
  case clearStaging => exact takeClearStaging_kept hp h
  case openLoad => exact takeOpenLoad_kept hp h
  case openRead => exact takeOpenRead_kept hp h
  case closePort => exact takeClosePort_kept hp h
  case unlockChannel => exact hp.unlock h
  case pulseSync => exact takePulseSync_kept hp h
  case flushRecords => exact takeFlushRecords_kept hp h
  case clearCounters => exact takeClearCounters_kept hp h
  case save => exact takeSave_kept hp h
  case load => exact takeLoad_kept hp h
  case erase => exact takeErase_kept hp h
  case setStartup => exact takeSetStartup_kept hp h
  case abortStore => exact takeAbortStore_kept hp h
  case softReset => exact takeSoftReset_kept hp h
  case unknownCommand code => exact outOfReset_kept (fun _ h => writeCommand_kept hp code h) h
  case tscLoRead => exact readAccess_kept hp.toKeptByRuns (fun h => hp.of_same h ⟨rfl, rfl, rfl⟩) h
  case rec9Read => exact readAccess_kept hp.toKeptByRuns (popRecord_kept hp) h
  case tpDataWrite w => exact outOfReset_kept (fun _ h => writeTpData_kept hp w h) h
  case tpDataRead => exact readAccess_kept hp.toKeptByRuns (advanceRead_kept hp) h
  case statusFlagsWrite => exact outOfReset_kept (fun _ h => hp.of_same h ⟨rfl, rfl, rfl⟩) h
  case chEnableWrite w => exact outOfReset_kept (fun _ h => hp.chEnable w h) h
  case syncConfigWrite w => exact outOfReset_kept (fun _ h => writeSyncConfig_kept hp w h) h
  case chCeilingWrite w => exact outOfReset_kept (fun _ h => hp.chCeiling w h) h
  case policyWrite w => exact outOfReset_kept (fun _ h => writePolicy_kept hp w h) h
  case recThresholdWrite w => exact outOfReset_kept (fun _ h => writeRecThreshold_kept hp w h) h
  case irqEnableWrite => exact outOfReset_kept (fun _ h => hp.of_same h ⟨rfl, rfl, rfl⟩) h
  case registerWrite addr w => exact outOfReset_kept (fun _ h => writeRegister_kept hp addr w h) h
  case triggerEdge i level => exact senseEdge_kept hp i level h
  case faultAssert n => exact hp.fault n h
  case faultLineFall n => exact hp.faultFall n h
  case hardwareReset => exact hp.reset (cutOffStep_kept hp h)
  case resetEnd => exact hp.resetEnd h
  case millisecondEvent => exact outOfReset_kept (fun _ h => millisecond_kept hp h) h
  case holdTimerExpiry => exact outOfReset_kept (fun _ h => expireHold_kept hp h) h
  case dueInstant => exact outOfReset_kept (fun _ h => reachDue_kept hp h) h
  case gateWidthEnd n => exact outOfReset_kept (fun _ h => hp.closeGate n h) h
  case syncStart i => exact outOfReset_kept (fun _ h => startPulse_kept hp i h) h
  case syncEnd i => exact outOfReset_kept (fun _ h => endPulse_kept hp i h) h
  case gapEnd => exact outOfReset_kept (fun _ h => endGap_kept hp h) h
  case holdoffWindowClose i => exact outOfReset_kept (fun _ h => closeWindow_kept hp i h) h
  case eraseAttemptDone verified => exact outOfReset_kept (fun _ h => eraseAttempt_kept hp verified h) h
  case programStepDone verified => exact outOfReset_kept (fun _ h => programStep_kept hp verified h) h
  case sectorReadDone => exact outOfReset_kept (fun _ h => sectorRead_kept hp h) h
  case storedWordChange place flip => exact hp.storedWord place flip h

/-- What the Sequencer and the writers of the hardware keep, every step keeps. -/
theorem step_kept {s t : State} (h : p s) (hstep : step s = .next t) : p t := by
  rcases step_cases hstep with ⟨-, rfl⟩ | ⟨c, rest, -, hexec⟩
  · rcases idleStep_cases s with ⟨_, heq⟩ | ⟨_, _, heq⟩ | ⟨_, _, _, heq⟩ <;> rw [heq]
    · exact h
    · exact hp.of_same h ⟨rfl, rfl, rfl⟩
    · exact hp.of_same h ⟨rfl, rfl, rfl⟩
  · refine exec_kept hp (hp.of_same h ?_) hexec
    exact ⟨rfl, rfl, rfl⟩

end

end Sys2Proof.Proofs
end

section
/-! The images stay canonical (O58) and the channels stay safe (O57): what each writer of the hardware keeps of them. -/
namespace Sys2Proof.Proofs
open Sys2Proof.Machine

/-! ### Locking a channel -/

/-- A channel locked, dark and marked, before the fault policy is looked at (R97). -/
def lockedMark (n : Fin 8) (s : State) : State :=
  raise channelFaultFlag <| noteFault (if (s.channels.channel[n]).gate.isSome then oneChannel n else 0) <|
    setChannel n { s.channels.channel[n] with locked := true, gate := none } s

/-- R98: what follows the lock by the fault policy. -/
theorem lockChannel_cases (n : Fin 8) (s : State) :
    (s.policy.faultPolicy = .stop ∧ s.seq.state ≠ .stopped ∧
      lockChannel n s = stopSequencer .channelFault (lockedMark n s)) ∨
    (¬(s.policy.faultPolicy = .stop ∧ s.seq.state ≠ .stopped) ∧ lockChannel n s = afterGateClose (lockedMark n s)) := by
  by_cases h : s.policy.faultPolicy = .stop ∧ s.seq.state ≠ .stopped
  · exact .inl ⟨h.1, h.2, if_pos h⟩
  · exact .inr ⟨h, if_neg h⟩

theorem setChannel_channel (n i : Fin 8) (ch : Channel) (s : State) :
    (setChannel n ch s).channels.channel[i] = if i = n then ch else s.channels.channel[i] := by
  by_cases h : i = n
  · subst h
    simp
  · have hne : n.val ≠ i.val := fun heq => h (Fin.ext heq.symm)
    simp [h, hne]

theorem closeGates_channel (s : State) (i : Fin 8) :
    (closeGates s).channels.channel[i] = { s.channels.channel[i] with gate := none } := by simp

theorem lightChannels_channel (lit : ChannelMask) (es : List ChannelEntry) (s : State) (i : Fin 8) :
    (lightChannels lit es s).channels.channel[i] = lightChannel s lit es i := by simp

theorem refill_channel (s : State) (i : Fin 8) :
    (refill s).channels.channel[i] = { s.channels.channel[i] with credit := refilled s.channels.channel[i] } := by simp

theorem writeChEnable_channel (w : Word) (s : State) (i : Fin 8) :
    (writeChEnable w s).channels.channel[i] = { s.channels.channel[i] with
      enabled := bit w i.val
      gate := if bit w i.val then (s.channels.channel[i]).gate else none } := by
  simp [writeChEnable]

theorem lockedMark_channel (n i : Fin 8) (s : State) :
    (lockedMark n s).channels.channel[i] =
      if i = n then { s.channels.channel[n] with locked := true, gate := none } else s.channels.channel[i] := by
  rw [← setChannel_channel n i _ s]
  simp [lockedMark]

theorem lockedMark_inReset (n : Fin 8) (s : State) : (lockedMark n s).inReset = s.inReset := by simp [lockedMark]

theorem lockedMark_store (n : Fin 8) (s : State) : (lockedMark n s).store = s.store := by simp [lockedMark]

theorem lockChannel_inReset (n : Fin 8) (s : State) : (lockChannel n s).inReset = s.inReset := by
  rcases lockChannel_cases n s with ⟨_, _, h⟩ | ⟨_, h⟩ <;> simp [h, lockedMark_inReset]

theorem lockChannel_store (n : Fin 8) (s : State) : (lockChannel n s).store = s.store := by
  rcases lockChannel_cases n s with ⟨_, _, h⟩ | ⟨_, h⟩ <;> simp [h, lockedMark_store]

/-- After a lock each channel is as the lock itself leaves it, or dark besides when the run has been stopped. -/
theorem lockChannel_channel (n i : Fin 8) (s : State) :
    (lockChannel n s).channels.channel[i] = (lockedMark n s).channels.channel[i] ∨
    (lockChannel n s).channels.channel[i] = { (lockedMark n s).channels.channel[i] with gate := none } := by
  rcases lockChannel_cases n s with ⟨_, _, h⟩ | ⟨_, h⟩ <;> rw [h]
  · rw [stopSequencer_channels, closeGates_channel]
    exact .inr rfl
  · rw [afterGateClose_channels]
    exact .inl rfl

/-- One channel of the walk over the fault lines as the reset ends (R101). -/
def lockIfAsserted (t : State) (n : Fin 8) : State := if (t.channels.channel[n]).faultLine then lockChannel n t else t

theorem lockAsserted_eq (s : State) : lockAsserted s = allChannels.foldl lockIfAsserted s := rfl

theorem lockIfAsserted_store (t : State) (n : Fin 8) : (lockIfAsserted t n).store = t.store := by
  unfold lockIfAsserted
  split
  · exact lockChannel_store n t
  · rfl

theorem foldl_lockIfAsserted_store (l : List (Fin 8)) : ∀ s : State, (l.foldl lockIfAsserted s).store = s.store := by
  induction l with
  | nil => exact fun _ => rfl
  | cons n l ih => exact fun s => (ih _).trans (lockIfAsserted_store s n)

/-! ### The images -/

theorem memorySafe_keptByHardware : KeptByHardware memorySafe where
  of_same h hsame := by
    unfold memorySafe at h ⊢
    rwa [hsame.2.2]
  closeGates h := h
  lightChannels _ h := h
  chEnable w s h := by
    have himages : (writeChEnable w s).store.array.images = s.store.array.images := by simp [writeChEnable]
    unfold memorySafe
    rwa [himages]
  chCeiling w s h := by
    unfold writeChCeiling
    split <;> exact h
  chTrim w s h := by
    unfold writeChTrim
    split <;> exact h
  chRate w s h := by
    unfold writeChRate
    split <;> exact h
  unlock h := takeCommand_keeps h (fun _ _ => h) fun _ _ _ _ => h
  fault n s h := by
    unfold assertFault memorySafe
    dsimp only
    split
    · exact h
    · rwa [lockChannel_store]
  faultFall n s h := h
  closeGate n s h := by
    unfold closeGate memorySafe
    split
    · rwa [afterGateClose_store]
    · exact h
  refill h := h
  image slot k ws s h := setImageSector_wf slot k ws s h
  storedWord place flip s h := changeStoredWord_wf place flip s h
  reset h := h
  resetEnd {s} h := by
    unfold releaseReset memorySafe
    split
    · rwa [lockAsserted_eq, foldl_lockIfAsserted_store]
    · exact h

/-- Settles O58: `memorySafe` is a predicate that every writer of the hardware keeps. -/
theorem stepKeepsMemoryCanonical : Obligations.StepKeepsMemoryCanonical :=
  fun _ _ => step_kept memorySafe_keptByHardware

/-! ### The channels -/

/-- A safe channel that is locked while its fault line is asserted, outside reset. -/
def safeOutside (inReset : Bool) (ch : Channel) : Prop :=
  ch.safe ∧ (inReset = false → ch.faultLine = true → ch.locked = true)

theorem Channel.safe_dark {ch : Channel} (h : ch.safe) : Channel.safe { ch with gate := none } := by
  obtain ⟨htrim, htrim', hceiling, hrate, hcredit, -, -⟩ := h
  exact ⟨htrim, htrim', hceiling, hrate, hcredit, nofun, nofun⟩

theorem Channel.safe_reset (line : Bool) : (Channel.reset line).safe := by
  unfold Channel.safe
  revert line
  decide

theorem channelsSafe_of_channel {s t : State} (hreset : t.inReset = s.inReset) (h : channelsSafe s)
    (hchannel : ∀ i : Fin 8, safeOutside s.inReset s.channels.channel[i] → safeOutside s.inReset t.channels.channel[i]) :
    channelsSafe t := fun i => hreset ▸ hchannel i (h i)

theorem channelsSafe_setChannel {s : State} {n : Fin 8} {ch : Channel} (h : channelsSafe s)
    (hch : safeOutside s.inReset s.channels.channel[n] → safeOutside s.inReset ch) : channelsSafe (setChannel n ch s) :=
  channelsSafe_of_channel (setChannel_inReset n ch s) h fun i hi => by
    rw [setChannel_channel]
    by_cases hin : i = n
    · rw [if_pos hin]
      exact hch (hin ▸ hi)
    · rwa [if_neg hin]

theorem channelsSafe_closeGates {s : State} (h : channelsSafe s) : channelsSafe (closeGates s) :=
  channelsSafe_of_channel (closeGates_inReset s) h fun i hi => by
    rw [closeGates_channel]
    exact ⟨Channel.safe_dark hi.1, hi.2⟩

/-- The effective level of an entry fits in the ten bits of LVLn and is not 0 (R76). -/
theorem level_ne_zero {level : BitVec 10} {trim : Word} (h : trim.toNat ≤ 256) :
    BitVec.ofNat 10 (effectiveLevel level.toNat trim.toNat) ≠ 0 := by
  have hlow := one_le_effectiveLevel level.toNat trim.toNat
  have hhigh := effectiveLevel_le (level := level.toNat) (by omega) h
  intro heq
  have := congrArg BitVec.toNat heq
  rw [BitVec.toNat_ofNat] at this
  change _ = 0 at this
  omega

theorem safeOutside_lightChannel {s : State} {lit : ChannelMask} {es : List ChannelEntry} {i : Fin 8}
    (hlit : inMask lit i = true → (s.channels.channel[i]).enabled = true ∧ (s.channels.channel[i]).locked = false)
    (h : safeOutside s.inReset s.channels.channel[i]) : safeOutside s.inReset (lightChannel s lit es i) := by
  unfold lightChannel
  dsimp only
  split
  · rename_i e he
    obtain rfl : e.channel = i := by simpa using List.find?_some he
    split
    · rename_i hin
      obtain ⟨⟨htrim, htrim', hceiling, hrate, hcredit, -, -⟩, hfault⟩ := h
      refine ⟨⟨htrim, htrim', hceiling, hrate, ?_, fun _ => hlit hin, ?_⟩, hfault⟩
      · have hlt := (s.channels.channel[e.channel]).credit.isLt
        simp only [word, BitVec.toNat_ofNat]
        omega
      · intro g hg
        obtain rfl := Option.some.inj hg
        exact level_ne_zero htrim'
    · exact h
  · exact h

theorem lockChannel_faultLine (n i : Fin 8) (s : State) :
    ((lockChannel n s).channels.channel[i]).faultLine = (s.channels.channel[i]).faultLine := by
  have hmark : ((lockedMark n s).channels.channel[i]).faultLine = (s.channels.channel[i]).faultLine := by
    rw [lockedMark_channel]
    by_cases hi : i = n
    · rw [if_pos hi, hi]
    · rw [if_neg hi]
  rcases lockChannel_channel n i s with heq | heq <;> rw [heq] <;> exact hmark

theorem lockChannel_locked (n i : Fin 8) (s : State) :
    ((lockChannel n s).channels.channel[i]).locked = true ↔ i = n ∨ (s.channels.channel[i]).locked = true := by
  have hmark : ((lockedMark n s).channels.channel[i]).locked = true ↔ i = n ∨ (s.channels.channel[i]).locked = true := by
    rw [lockedMark_channel]
    by_cases hi : i = n
    · rw [if_pos hi]
      exact ⟨fun _ => .inl hi, fun _ => rfl⟩
    · rw [if_neg hi]
      exact ⟨.inr, fun h => h.resolve_left hi⟩
  rcases lockChannel_channel n i s with heq | heq <;> rw [heq] <;> exact hmark

theorem lockChannel_safe (n i : Fin 8) {s : State} (h : ∀ i : Fin 8, (s.channels.channel[i]).safe) :
    ((lockChannel n s).channels.channel[i]).safe := by
  have hmark : ((lockedMark n s).channels.channel[i]).safe := by
    rw [lockedMark_channel]
    by_cases hi : i = n
    · rw [if_pos hi]
      exact ⟨(h n).1, (h n).2.1, (h n).2.2.1, (h n).2.2.2.1, (h n).2.2.2.2.1, nofun, nofun⟩
    · rw [if_neg hi]
      exact h i
  rcases lockChannel_channel n i s with heq | heq <;> rw [heq]
  · exact hmark
  · exact Channel.safe_dark hmark

theorem setFaultLine_channel (n i : Fin 8) (level : Bool) (s : State) :
    (setFaultLine n level s).channels.channel[i] =
      if i = n then { s.channels.channel[n] with faultLine := level } else s.channels.channel[i] :=
  setChannel_channel n i _ s

theorem channelsSafe_assertFault (n : Fin 8) {s : State} (h : channelsSafe s) : channelsSafe (assertFault n s) := by
  have hsafe : ∀ i : Fin 8, ((setFaultLine n true s).channels.channel[i]).safe := fun i => by
    rw [setFaultLine_channel]
    by_cases hi : i = n
    · rw [if_pos hi]
      exact (h n).1
    · rw [if_neg hi]
      exact (h i).1
  have hother : ∀ i : Fin 8, i ≠ n → (setFaultLine n true s).channels.channel[i] = s.channels.channel[i] :=
    fun i hi => by rw [setFaultLine_channel, if_neg hi]
  unfold assertFault
  dsimp only
  split
  · rename_i hcond
    intro i
    refine ⟨hsafe i, fun hreset => ?_⟩
    rw [setFaultLine_inReset] at hreset
    by_cases hi : i = n
    · rw [setFaultLine_channel, if_pos hi]
      exact fun _ => by simpa [hreset] using hcond
    · rw [hother i hi]
      exact (h i).2 hreset
  · intro i
    refine ⟨lockChannel_safe n i hsafe, fun hreset => ?_⟩
    rw [lockChannel_inReset, setFaultLine_inReset] at hreset
    rw [lockChannel_faultLine, lockChannel_locked]
    by_cases hi : i = n
    · exact fun _ => .inl hi
    · rw [hother i hi]
      exact fun hf => .inr ((h i).2 hreset hf)

theorem mem_allChannels (i : Fin 8) : i ∈ allChannels := by revert i; decide

/-- R101: the walk over some channels keeps every channel safe, keeps the fault lines, and locks each channel of them whose
line is asserted. -/
theorem foldl_lockIfAsserted (l : List (Fin 8)) : ∀ {s : State}, (∀ i : Fin 8, (s.channels.channel[i]).safe) →
    ∀ i : Fin 8, ((l.foldl lockIfAsserted s).channels.channel[i]).safe ∧
      (i ∈ l ∨ ((s.channels.channel[i]).faultLine = true → (s.channels.channel[i]).locked = true) →
        ((l.foldl lockIfAsserted s).channels.channel[i]).faultLine = true →
        ((l.foldl lockIfAsserted s).channels.channel[i]).locked = true) := by
  induction l with
  | nil => exact fun h i => ⟨h i, fun hi hf => hi.elim nofun (· hf)⟩
  | cons n l ih =>
    intro s h i
    rw [List.foldl_cons]
    by_cases hn : (s.channels.channel[n]).faultLine = true
    · have hlock : lockIfAsserted s n = lockChannel n s := if_pos hn
      rw [hlock]
      obtain ⟨hsafe, hrest⟩ := ih (fun i => lockChannel_safe n i h) i
      refine ⟨hsafe, fun hi => hrest ?_⟩
      rw [lockChannel_faultLine, lockChannel_locked]
      rcases hi with hi | hi
      · exact (List.mem_cons.mp hi).elim (fun hin => .inr fun _ => .inl hin) .inl
      · exact .inr fun hf => .inr (hi hf)
    · have hskip : lockIfAsserted s n = s := if_neg hn
      rw [hskip]
      obtain ⟨hsafe, hrest⟩ := ih h i
      refine ⟨hsafe, fun hi => hrest ?_⟩
      rcases hi with hi | hi
      · exact (List.mem_cons.mp hi).elim (fun hin => .inr fun hf => absurd (hin ▸ hf) hn) .inl
      · exact .inr hi

theorem channelsSafe_lockAsserted {s : State} (h : ∀ i : Fin 8, (s.channels.channel[i]).safe) :
    channelsSafe (lockAsserted s) := fun i => by
  rw [lockAsserted_eq]
  obtain ⟨hsafe, hlock⟩ := foldl_lockIfAsserted allChannels h i
  exact ⟨hsafe, fun _ => hlock (.inl (mem_allChannels i))⟩

theorem channelsSafe_releaseReset {s : State} (h : channelsSafe s) : channelsSafe (releaseReset s) := by
  by_cases hreset : s.inReset = true
  · rw [releaseReset, if_pos hreset]
    exact channelsSafe_lockAsserted fun i => (h i).1
  · rwa [releaseReset, if_neg hreset]

theorem channelsSafe_keptByHardware : KeptByHardware channelsSafe where
  of_same h hsame := by
    obtain ⟨hreset, hchannel, -⟩ := hsame
    unfold channelsSafe
    rw [hreset, hchannel]
    exact h
  closeGates := channelsSafe_closeGates
  lightChannels hlit h := channelsSafe_of_channel (lightChannels_inReset _ _ _) h fun i hi => by
    rw [lightChannels_channel]
    exact safeOutside_lightChannel (hlit i) hi
  chEnable w s h := channelsSafe_of_channel (by simp [writeChEnable]) h fun i hi => by
    obtain ⟨⟨htrim, htrim', hceiling, hrate, hcredit, hgate, hlevel⟩, hfault⟩ := hi
    rw [writeChEnable_channel]
    refine ⟨⟨htrim, htrim', hceiling, hrate, hcredit, ?_, ?_⟩, hfault⟩
    · cases hb : bit w i.val
      · simp
      · exact fun hg => ⟨rfl, (hgate hg).2⟩
    · cases hb : bit w i.val
      · simp
      · exact hlevel
  chCeiling w s h := by
    by_cases hw : w = 0
    · subst hw
      exact h
    · rw [writeChCeiling_of_ne_zero hw]
      refine channelsSafe_setChannel h fun hi => ?_
      obtain ⟨⟨htrim, htrim', -, hrate, -, hgate, hlevel⟩, hfault⟩ := hi
      have hpos : 1 ≤ w.toNat := by
        have : w.toNat ≠ 0 := fun h0 => hw (BitVec.eq_of_toNat_eq (by simpa using h0))
        omega
      refine ⟨⟨htrim, htrim', hpos, hrate, ?_, hgate, hlevel⟩, hfault⟩
      simp only [word, BitVec.toNat_ofNat]
      omega
  chTrim w s h := by
    unfold writeChTrim
    split
    · rename_i hw
      refine channelsSafe_setChannel h fun hi => ?_
      obtain ⟨⟨-, -, hrest⟩, hfault⟩ := hi
      exact ⟨⟨hw.1, hw.2, hrest⟩, hfault⟩
    · exact h
  chRate w s h := by
    unfold writeChRate
    split
    · rename_i hw
      refine channelsSafe_setChannel h fun hi => ?_
      obtain ⟨⟨htrim, htrim', hceiling, -, hrest⟩, hfault⟩ := hi
      exact ⟨⟨htrim, htrim', hceiling, hw, hrest⟩, hfault⟩
    · exact h
  unlock {s} h := takeCommand_keeps h (fun _ _ => h) fun _ _ _ hrefusal => by
    have hline : (s.channels.channel[unlockTarget s]).faultLine = false := by
      rw [firstRefusal_eq_none] at hrefusal
      exact hrefusal (_, .faultPresent) (by simp)
    refine channelsSafe_setChannel (s := verdict 0x20 .accepted 0 s) h fun hi => ?_
    obtain ⟨⟨htrim, htrim', hceiling, hrate, hcredit, hgate, hlevel⟩, hfault⟩ := hi
    refine ⟨⟨htrim, htrim', hceiling, hrate, hcredit, fun hg => ⟨(hgate hg).1, rfl⟩, hlevel⟩, fun _ hf => ?_⟩
    exact absurd (hline.symm.trans hf) Bool.false_ne_true
  fault n s h := channelsSafe_assertFault n h
  faultFall n s h := channelsSafe_setChannel h fun hi => ⟨hi.1, fun _ hf => absurd hf Bool.false_ne_true⟩
  closeGate n s h := by
    unfold closeGate
    split
    · have hclosed := channelsSafe_setChannel (n := n) (ch := { s.channels.channel[n] with gate := none }) h
        fun hi => ⟨Channel.safe_dark hi.1, hi.2⟩
      refine channelsSafe_of_channel (afterGateClose_inReset _) hclosed fun i hi => ?_
      rwa [afterGateClose_channels]
    · exact h
  refill h := channelsSafe_of_channel (refill_inReset _) h fun i hi => by
    obtain ⟨⟨htrim, htrim', hceiling, hrate, -, hgate, hlevel⟩, hfault⟩ := hi
    rw [refill_channel]
    refine ⟨⟨htrim, htrim', hceiling, hrate, ?_, hgate, hlevel⟩, hfault⟩
    simp only [refilled, word, BitVec.toNat_ofNat]
    omega
  image slot k ws s h := h
  storedWord place flip s h := by
    unfold changeStoredWord
    dsimp only
    repeat' split
    all_goals exact h
  reset {s} h := fun i => by
    refine ⟨?_, fun hreset => absurd hreset (by simp [resetBlocks])⟩
    have hchannel : (resetBlocks s).channels.channel[i] = Channel.reset (s.channels.channel[i]).faultLine := by
      simp [resetBlocks, ChannelUnit.reset]
    rw [hchannel]
    exact Channel.safe_reset _
  resetEnd := channelsSafe_releaseReset

/-- Settles O57: `channelsSafe` is a predicate that every writer of the hardware keeps. -/
theorem stepKeepsChannelsSafe : Obligations.StepKeepsChannelsSafe :=
  fun _ _ => step_kept channelsSafe_keptByHardware

end Sys2Proof.Proofs
end

section
/-! The step on an empty queue (O2) and the timed events that are due (O3). -/
namespace Sys2Proof.Proofs
open Sys2Proof.Machine

/-! ### The events that are due -/

theorem mem_allFour (i : Fin 4) : i ∈ allFour := by revert i; decide

theorem mem_whenDue (due : Bool) (c x : Instr) : x ∈ whenDue due c ↔ due = true ∧ x = c := by
  cases due <;> simp [whenDue]

theorem holdoffWindowClose_mem_dueEvents (s : State) (i : Fin 4) :
    .holdoffWindowClose i ∈ dueEvents s ↔ windowDue i s = true := by
  simp [dueEvents, mem_whenDue, mem_allFour]

theorem millisecondEvent_mem_dueEvents (s : State) : .millisecondEvent ∈ dueEvents s ↔ s.timebase.msDue = true := by
  simp [dueEvents, mem_whenDue]

theorem holdTimerExpiry_mem_dueEvents (s : State) : .holdTimerExpiry ∈ dueEvents s ↔ holdTimerOver s = true := by
  simp [dueEvents, mem_whenDue]

theorem dueInstant_mem_dueEvents (s : State) : .dueInstant ∈ dueEvents s ↔ dueInstantDue s = true := by
  simp [dueEvents, mem_whenDue]

theorem gateWidthEnd_mem_dueEvents (s : State) (n : Fin 8) : .gateWidthEnd n ∈ dueEvents s ↔ gateWidthOver n s = true := by
  simp [dueEvents, mem_whenDue, mem_allChannels]

theorem syncStart_mem_dueEvents (s : State) (i : Fin 4) : .syncStart i ∈ dueEvents s ↔ startDue i s = true := by
  simp [dueEvents, mem_whenDue, mem_allFour]

theorem syncEnd_mem_dueEvents (s : State) (i : Fin 4) : .syncEnd i ∈ dueEvents s ↔ endDue i s = true := by
  simp [dueEvents, mem_whenDue, mem_allFour]

theorem gapEnd_mem_dueEvents (s : State) : .gapEnd ∈ dueEvents s ↔ gapDue s = true := by
  simp [dueEvents, mem_whenDue]

/-! ### When each time has come -/

theorem windowDue_iff (i : Fin 4) (s : State) :
    windowDue i s = true ↔ ∃ t, (s.triggers.inputs[i]).window = some t ∧ hasCome s.timebase.tsc t = true := by
  unfold windowDue
  split <;> simp_all

theorem holdTimerOver_iff (s : State) : holdTimerOver s = true ↔ s.seq.state = .held ∧
    (s.seq.holdTimer = some 0 ∨ (s.seq.holdTimer = some 1 ∧ s.timebase.msDue = true)) := by
  simp [holdTimerOver]

theorem dueHasCome_iff (s : State) (c : StepContext) :
    dueHasCome s c = true ↔ c.record.delay.toNat ≤ (s.timebase.tsc - c.reference).toNat := decide_eq_true_iff

theorem dueInstantDue_iff (s : State) : dueInstantDue s = true ↔ s.seq.state = .delaying ∧
    ∃ c, s.seq.context = some c ∧ c.dueReached = false ∧
      c.record.delay.toNat ≤ (s.timebase.tsc - c.reference).toNat := by
  unfold dueInstantDue
  cases s.seq.context <;> simp [dueHasCome_iff]

theorem gateWidthOver_iff (n : Fin 8) (s : State) : gateWidthOver n s = true ↔
    ∃ g, (s.channels.channel[n]).gate = some g ∧ hasCome s.timebase.tsc g.closing = true := by
  unfold gateWidthOver
  split <;> simp_all

theorem startDue_iff (i : Fin 4) (s : State) : startDue i s = true ↔
    ∃ start finish, (s.syncs[i]).pulse = .scheduled start finish ∧ hasCome s.timebase.tsc start = true := by
  unfold startDue
  cases (s.syncs[i]).pulse <;> simp

theorem endDue_iff (i : Fin 4) (s : State) : endDue i s = true ↔
    ∃ kind finish, (s.syncs[i]).pulse = .active kind finish ∧ hasCome s.timebase.tsc finish = true := by
  unfold endDue
  cases (s.syncs[i]).pulse <;> simp

theorem gapOver_iff (s : State) (c : StepContext) : gapOver s c = true ↔ s.seq.state = .settling ∧
    ∃ g, c.gapStart = some g ∧ c.record.gap.toNat ≤ (s.timebase.tsc - g).toNat := by
  unfold gapOver
  rw [Bool.and_eq_true, decide_eq_true_iff]
  cases c.gapStart with
  | none => simp
  | some g => exact and_congr_right fun _ => decide_eq_true_iff.trans ⟨fun h => ⟨g, rfl, h⟩, fun ⟨_, hg, h⟩ =>
      Option.some.inj hg ▸ h⟩

theorem gapDue_iff (s : State) : gapDue s = true ↔ s.seq.state = .settling ∧
    ∃ c g, s.seq.context = some c ∧ c.gapStart = some g ∧ c.record.gap.toNat ≤ (s.timebase.tsc - g).toNat := by
  unfold gapDue
  cases s.seq.context <;> simp [gapOver_iff]

/-- Settles O3, one timed event at a time. -/
theorem dueEventsAreThoseWhoseTimeHasCome : Obligations.DueEventsAreThoseWhoseTimeHasCome :=
  ⟨fun _ _ => decide_eq_true_iff, fun s =>
    ⟨fun i => (holdoffWindowClose_mem_dueEvents s i).trans (windowDue_iff i s),
      millisecondEvent_mem_dueEvents s,
      (holdTimerExpiry_mem_dueEvents s).trans (holdTimerOver_iff s),
      (dueInstant_mem_dueEvents s).trans (dueInstantDue_iff s),
      fun n => (gateWidthEnd_mem_dueEvents s n).trans (gateWidthOver_iff n s),
      fun i => (syncStart_mem_dueEvents s i).trans (startDue_iff i s),
      fun i => (syncEnd_mem_dueEvents s i).trans (endDue_iff i s),
      (gapEnd_mem_dueEvents s).trans (gapDue_iff s)⟩⟩

/-! ### The step on an empty queue -/

theorem insertAt_perm (x : Instr) : ∀ (n : Nat) (ys : List Instr), (insertAt x n ys).Perm (x :: ys)
  | 0, _ => .refl _
  | _ + 1, [] => .refl _
  | n + 1, y :: ys => ((insertAt_perm x n ys).cons y).trans (.swap x y ys)

/-- The free order of log 2 is an order of the same events. -/
theorem arrange_perm (n : Nat) : ∀ l : List Instr, (arrange n l).Perm l
  | [] => .refl _
  | [_] => .refl _
  | x :: y :: ys => (insertAt_perm x _ _).trans ((arrange_perm n (y :: ys)).cons x)

theorem step_of_pending_nil {s : State} (h : s.pending = []) : step s = .next (idleStep s) := by
  unfold step
  rw [h]

theorem passSteps_eq (b : Bank) : passSteps b = (b.order.map fun e => e.repeatLess1.val + 1).sum := rfl

theorem instantSpent_iff (s : State) : instantSpent s = true ↔ dueEvents s = [.gapEnd] ∧ endlessInNoTime s ∧
    ((activeBank s).order.map fun e => e.repeatLess1.val + 1).sum + Config.freeSteps s.timebase.tsc.toNat ≤
      s.timebase.completions := by
  rw [← passSteps_eq, ← runsInNoTime_iff]
  simp only [instantSpent, Bool.and_eq_true, decide_eq_true_eq]
  exact and_assoc.trans and_left_comm

theorem microsecond_eq (s : State) : microsecond s = { s with timebase := { s.timebase with
    tsc := s.timebase.tsc + 1
    divider := if s.timebase.divider = 999 then 0 else s.timebase.divider + 1
    msDue := s.timebase.divider = 999 || s.timebase.msDue
    completions := 0 } } := by
  unfold microsecond tickDivider
  by_cases h : s.timebase.divider = 999 <;> simp [h]

/-- Settles O2, by what the step on an empty queue can do. -/
theorem idleStepLetsTimePass : Obligations.IdleStepLetsTimePass := by
  refine ⟨fun s hpending hreset hquiet => ?_, fun s hpending hreset hdue hnot => ?_⟩
  · have hidle : dueEvents s = [] ∨ instantSpent s = true := hquiet.imp_right (instantSpent_iff s).mpr
    rw [step_of_pending_nil hpending, ← microsecond_eq]
    rcases idleStep_cases s with ⟨h, _⟩ | ⟨_, _, h⟩ | ⟨_, h1, h2, _⟩
    · exact absurd (hreset.symm.trans h) Bool.false_ne_true
    · rw [h]
    · exact (hidle.elim h1 (by simp [h2])).elim
  · have hspent : ¬instantSpent s = true := fun h => by
      obtain ⟨hgap, hendless, hle⟩ := (instantSpent_iff s).mp h
      exact absurd (hnot hgap hendless) (Nat.not_lt.mpr hle)
    refine ⟨arrange s.freeCount (dueEvents s), arrange_perm _ _, ?_⟩
    rw [step_of_pending_nil hpending]
    rcases idleStep_cases s with ⟨h, _⟩ | ⟨_, h, _⟩ | ⟨_, _, _, h⟩
    · exact absurd (hreset.symm.trans h) Bool.false_ne_true
    · exact (h.elim hdue hspent).elim
    · rw [h, deliver]
      simp only [gapEnd_mem_dueEvents]

end Sys2Proof.Proofs
end

section
/-! Commands while the part is BOOTING (O4) and bus accesses while RSTn is asserted (O5). -/
namespace Sys2Proof.Proofs
open Sys2Proof.Machine

/-- R167: every coded command is taken under its code. -/
theorem exec_coded {c : Instr} {code : Word} (hc : c ∈ codedCommands) (hcode : commandCode c = some code) (s : State) :
    ∃ args refusal effect, exec c s = .next (takeCommand code args refusal effect s) := by
  simp only [codedCommands, List.mem_cons, List.not_mem_nil, or_false] at hc
  rcases hc with rfl | rfl | rfl | rfl | rfl | rfl | rfl | rfl | rfl | rfl | rfl | rfl | rfl | rfl | rfl | rfl | rfl | rfl |
      rfl | rfl | rfl | rfl | rfl <;>
    obtain rfl := Option.some.inj hcode <;> exact ⟨_, _, _, rfl⟩

theorem commandOfCode_of_unknown {code : Word} (h : knownCode code = false) :
    commandOfCode code = .unknownCommand code := by
  simpa [knownCode] using h

theorem writeCommand_of_unknown {code : Word} (h : knownCode code = false) (s : State) :
    writeCommand code s = takeUnknown code s := by
  unfold writeCommand
  rw [commandOfCode_of_unknown h]

/-- Settles O4: the refusal of the coded commands, the unknown codes, and the code table. -/
theorem commandsDuringBoot : Obligations.CommandsDuringBoot := by
  refine ⟨fun c code s hc hcode hreset hboot => ?_, fun code s hunknown hreset => ?_, fun c code hwf hcode => ?_⟩
  · obtain ⟨args, refusal, effect, h⟩ := exec_coded hc hcode s
    rw [h, takeCommand_booting hreset hboot]
    rfl
  · have h : exec (.unknownCommand code) s = .next (outOfReset (writeCommand code) s) := rfl
    rw [h, outOfReset_released hreset, writeCommand_of_unknown hunknown, takeUnknown, outOfReset_released hreset]
    rfl
  · cases c with
    | unknownCommand =>
      obtain rfl := Option.some.inj hcode
      exact commandOfCode_of_unknown (by simpa [Instr.wf] using hwf)
    | run | stop | pause | resume | step | softTrigger | commit | cancelCommit | copyActive | clearStaging | openLoad
    | openRead | closePort | unlockChannel | pulseSync | flushRecords | clearCounters | save | load | erase | setStartup
    | abortStore | softReset =>
      cases hcode
      rfl
    | _ => cases hcode

/-- R185: a bus access that is no read has no effect while RSTn is asserted, and a read returns 0. -/
theorem exec_busAccess_asserted {c : Instr} {s : State} (h : s.inReset = true) (hc : busAccess c = true) :
    exec c s = .next { s with readData := if c = .tscLoRead ∨ c = .rec9Read ∨ c = .tpDataRead then 0 else s.readData } := by
  cases c with
  | tscLoRead | rec9Read | tpDataRead => exact congrArg Host.Outcome.next (readAccess_asserted h)
  | tpDataWrite | statusFlagsWrite | chEnableWrite | syncConfigWrite | chCeilingWrite | policyWrite | recThresholdWrite
  | irqEnableWrite | registerWrite | unknownCommand => exact congrArg Host.Outcome.next (outOfReset_asserted h)
  | _ => exact absurd hc Bool.false_ne_true

theorem takeCommand_asserted {code : Word} {args : Bool} {refusal : Option (ResultCode × Word)} {effect : State → State}
    {s : State} (h : s.inReset = true) : takeCommand code args refusal effect s = s := by simp [takeCommand, h]

theorem exec_coded_asserted {c : Instr} {s : State} (h : s.inReset = true) (hc : c ∈ codedCommands) :
    exec c s = .next s := by
  have hcode : ∃ code, commandCode c = some code := Option.isSome_iff_exists.mp (by revert c; decide)
  obtain ⟨code, hcode⟩ := hcode
  obtain ⟨args, refusal, effect, heq⟩ := exec_coded hc hcode s
  rw [heq, takeCommand_asserted h]

/-- Settles O5: the accesses, and the pins and reads. -/
theorem hardwareResetSilencesTheBus : Obligations.HardwareResetSilencesTheBus := by
  refine ⟨fun c s hreset hc => ?_, fun s hreset => ?_⟩
  · rcases hc with hc | hc
    · have hread : ¬(c = .tscLoRead ∨ c = .rec9Read ∨ c = .tpDataRead) := by revert c; decide
      rw [exec_coded_asserted hreset hc, if_neg hread]
    · exact exec_busAccess_asserted hreset hc
  · exact ⟨by simp [irqAsserted, hreset], fun _ => if_pos hreset, fun _ => ⟨by simp [gatePin, hreset], if_pos hreset⟩,
      fun _ => if_pos hreset⟩

end Sys2Proof.Proofs
end

section
/-! COMMIT and CANCEL_COMMIT (O7, O8), COPY_ACTIVE and CLEAR_STAGING (O10). -/
namespace Sys2Proof.Proofs
open Sys2Proof.Machine

/-! ### Commands that are examined -/

/-- A command that its owner refuses, with the verdict written out. -/
theorem refused_next {code : Word} {args : Bool} {refusal : Option (ResultCode × Word)} {effect : State → State}
    {s : State} {r : ResultCode} {d : Word} (hs : commandable s) (hargs : args = true) (hr : refusal = some (r, d)) :
    Host.Outcome.next (takeCommand code args refusal effect s) =
      (.next { s with cmd := { s.cmd with last := code, result := r, detail := d } } :
        Host.Outcome State Fault Refusal) :=
  congrArg Host.Outcome.next (takeCommand_refused hs.1 hs.2 hargs hr)

/-- A command whose arguments are out of range, with the verdict written out. -/
theorem badArgument_next {code : Word} {args : Bool} {refusal : Option (ResultCode × Word)} {effect : State → State}
    {s : State} (hs : commandable s) (hargs : args = false) :
    Host.Outcome.next (takeCommand code args refusal effect s) =
      (.next { s with cmd := { s.cmd with last := code, result := .badArgument, detail := 0 } } :
        Host.Outcome State Fault Refusal) :=
  congrArg Host.Outcome.next (takeCommand_badArgument hs.1 hs.2 hargs)

/-- A command that nothing refuses has its owner's effect. -/
theorem accepted_next {code : Word} {args : Bool} {refusal : Option (ResultCode × Word)} {effect : State → State}
    {s : State} (hs : commandable s) (hargs : args = true) (hr : refusal = none) :
    Host.Outcome.next (takeCommand code args refusal effect s) =
      (.next (effect (verdict code .accepted 0 s)) : Host.Outcome State Fault Refusal) :=
  congrArg Host.Outcome.next (takeCommand_accepted hs.1 hs.2 hargs hr)

/-! ### Sessions and banks -/

theorem loadSession_iff (s : State) : loadSession s = true ↔ s.port.kind = .load ∨ s.port.kind = .desync := by
  simp [loadSession]

theorem bank_setBank (t : TableMemory) (i : BankId) (b : Bank) : (t.setBank i b).bank i = b := by cases i <;> rfl

theorem bank_setBank_other (t : TableMemory) (i : BankId) (b : Bank) : (t.setBank i.other b).bank i = t.bank i := by
  cases i <;> rfl

theorem setBank_active (t : TableMemory) (i : BankId) (b : Bank) : (t.setBank i b).active = t.active := by
  cases i <;> rfl

theorem setBank_commitPending (t : TableMemory) (i : BankId) (b : Bank) :
    (t.setBank i b).commitPending = t.commitPending := by cases i <;> rfl

theorem stagingBank_setStaging (b : Bank) (s : State) : stagingBank (setStaging b s) = b := by
  simp [stagingBank, setBank_active, bank_setBank]

theorem activeBank_setStaging (b : Bank) (s : State) : activeBank (setStaging b s) = activeBank s := by
  simp [activeBank, setBank_active, bank_setBank_other]

/-! ### The end of a read session -/

/-- R142: a read session that ends so leaves SESSION_ENDED, and any other session stays. -/
theorem endReadSession_eq (s : State) : endReadSession s = { s with
    port := if s.port.kind = .read then
        { s.port with kind := .none, table := .steps, bank := .active, start := 0, assembly := [], written := 0,
                      beyond := [], tableFull := false, lastError := .sessionEnded, errorIndex := word s.port.next }
      else s.port
    status := { s.status with
      flags := if s.port.kind = .read then s.status.flags ||| portErrorFlag else s.status.flags } } := by
  by_cases h : s.port.kind = .read
  · simp only [endReadSession, h, if_true]
    rfl
  · simp only [endReadSession, h, if_false]

theorem endStagingRead_eq (s : State) : endStagingRead s = { s with
    port := if s.port.kind = .read ∧ s.port.bank = .staging then
        { s.port with kind := .none, table := .steps, bank := .active, start := 0, assembly := [], written := 0,
                      beyond := [], tableFull := false, lastError := .sessionEnded, errorIndex := word s.port.next }
      else s.port
    status := { s.status with
      flags := if s.port.kind = .read ∧ s.port.bank = .staging then s.status.flags ||| portErrorFlag
        else s.status.flags } } := by
  by_cases h : s.port.kind = .read ∧ s.port.bank = .staging
  · simp only [endStagingRead, if_pos h]
    rfl
  · simp only [endStagingRead, if_neg h]

/-- R16: the swap, field by field. -/
theorem swapBanks_eq (s : State) : swapBanks s = { s with
    tables := { s.tables with active := s.tables.active.other, commitPending := false }
    seq := { s.seq with position := 0, repetition := 1 }
    port := (endReadSession s).port
    status := { s.status with flags := (endReadSession s).status.flags ||| commitTakenFlag } } := by
  simp only [swapBanks, endReadSession_eq]
  rfl

/-! ### COMMIT and CANCEL_COMMIT -/

theorem commitRefusal_eq_none {s : State} (hsave : saveInFlight s = false) (hload : loadInFlight s = false)
    (hsession : loadSession s = false) (hpending : s.tables.commitPending = false)
    (hincomplete : s.tables.incomplete = false) (hvalid : (stagingBank s).validate = none) : commitRefusal s = none := by
  simp [commitRefusal, firstRefusal, hsave, hload, hsession, hpending, hincomplete, hvalid]

theorem exec_commit_accepted {s : State} (hs : commandable s) (hr : commitRefusal s = none) :
    exec .commit s = .next (commitEffect (verdict 0x10 .accepted 0 s)) := accepted_next hs rfl hr

/-- Settles O7: nothing refuses the COMMIT, and its effect in STOPPED is the swap. -/
theorem commitSwapsInStopped : Obligations.CommitSwapsInStopped := by
  intro s hs hsave hload hsession hpending hincomplete hvalid hstopped
  have heffect : commitEffect (verdict 0x10 .accepted 0 s) = swapBanks (verdict 0x10 .accepted 0 s) := if_pos hstopped
  have htables : { s.tables with active := s.tables.active.other, commitPending := false } =
      ({ s.tables with active := s.tables.active.other } : TableMemory) := by rw [← hpending]
  refine ⟨_, (exec_commit_accepted hs (commitRefusal_eq_none hsave hload hsession hpending hincomplete hvalid)).trans
    (congrArg _ heffect), ?_⟩
  rw [swapBanks_eq, endReadSession_eq]
  refine ⟨htables, rfl, rfl, rfl, ?_, rfl⟩
  by_cases hread : s.port.kind = .read <;> simp [hread]

/-- R14: the first of the five reasons that applies. -/
theorem commitRefusal_eq_some {s : State} {r : ResultCode} {d : Word}
    (h : if saveInFlight s = true ∨ loadInFlight s = true then r = .storeBusy ∧ d = 0
      else if s.port.kind = .load ∨ s.port.kind = .desync then r = .portOpen ∧ d = 0
      else if s.tables.commitPending = true then r = .commitPending ∧ d = 0
      else if s.tables.incomplete = true then r = .stagingIncomplete ∧ d = 0
      else r = .validationFailed ∧ (stagingBank s).validate = some d) : commitRefusal s = some (r, d) := by
  simp only [← loadSession_iff, ← Bool.or_eq_true] at h
  unfold commitRefusal firstRefusal
  split_ifs at h with hbusy hsession hpending hincomplete
  · obtain ⟨rfl, rfl⟩ := h
    simp only [hbusy, if_true]
  · obtain ⟨rfl, rfl⟩ := h
    simp [firstRefusal, hbusy, hsession]
  · obtain ⟨rfl, rfl⟩ := h
    simp [firstRefusal, hbusy, hsession, hpending]
  · obtain ⟨rfl, rfl⟩ := h
    simp [firstRefusal, hbusy, hsession, hpending, hincomplete]
  · obtain ⟨rfl, hvalid⟩ := h
    simp [firstRefusal, hbusy, hsession, hpending, hincomplete, hvalid]

/-- Settles O8: the pending commit, its withdrawal, and the refusals. -/
theorem commitPendsOrIsRefusedOrWithdrawn : Obligations.CommitPendsOrIsRefusedOrWithdrawn := by
  refine ⟨fun s hs hsave hload hsession hpending hincomplete hvalid hstate => ?_, fun s hs hpending => ?_,
    fun s hs hpending => ?_, fun s r d hs h => refused_next hs rfl (commitRefusal_eq_some h)⟩
  · rw [exec_commit_accepted hs (commitRefusal_eq_none hsave hload hsession hpending hincomplete hvalid)]
    exact congrArg _ (if_neg hstate)
  · exact accepted_next hs rfl (by simp [firstRefusal, hpending])
  · exact refused_next hs rfl (by simp [firstRefusal, hpending])

/-! ### COPY_ACTIVE and CLEAR_STAGING -/

theorem replaceRefusal_eq_none {s : State} (hpending : s.tables.commitPending = false) (hsession : loadSession s = false)
    (hsave : saveInFlight s = false) (hload : loadInFlight s = false) : replaceRefusal s = none := by
  simp [replaceRefusal, firstRefusal, hpending, hsession, hsave, hload]

theorem replaceRefusal_eq_some {s : State} {r : ResultCode}
    (h : if s.tables.commitPending = true then r = .commitPending
      else if s.port.kind = .load ∨ s.port.kind = .desync then r = .portOpen
      else r = .storeBusy ∧ (saveInFlight s = true ∨ loadInFlight s = true)) : replaceRefusal s = some (r, 0) := by
  simp only [← loadSession_iff, ← Bool.or_eq_true] at h
  unfold replaceRefusal firstRefusal
  split_ifs at h with hpending hsession
  · simp [hpending, h]
  · simp [firstRefusal, hpending, hsession, h]
  · obtain ⟨rfl, hbusy⟩ := h
    simp [firstRefusal, hpending, hsession, hbusy]

/-- R19, R20: the staging bank replaced, field by field. -/
theorem replaceStaging_eq (b : Bank) (s : State) : replaceStaging b s = { s with
    tables := { s.tables.setBank s.tables.active.other b with incomplete := false }
    port := (endStagingRead s).port
    status := (endStagingRead s).status } := by
  simp only [replaceStaging, endStagingRead_eq]
  rfl

/-- The staging bank is replaced by a command of a code, and nothing else but what R19 and R20 say. -/
def stagingReplacedBy (b : Bank) (code : Word) (s t : State) : Prop :=
  t.tables.active = s.tables.active ∧ activeBank t = activeBank s ∧ stagingBank t = b ∧
  t.tables.commitPending = false ∧ t.tables.incomplete = false ∧
  t.cmd = { s.cmd with last := code, result := .accepted, detail := 0 } ∧
  (if s.port.kind = .read ∧ s.port.bank = .staging then
    t.port.kind = .none ∧ t.port.lastError = .sessionEnded ∧ t.port.errorIndex = word s.port.next ∧
      t.port.next = s.port.next ∧ t.port.wordPos = s.port.wordPos ∧ t.port.assembly = [] ∧ t.port.written = 0 ∧
      t.port.beyond = [] ∧ t.port.tableFull = false ∧ t.status.flags = s.status.flags ||| portErrorFlag
  else t.port = s.port ∧ t.status.flags = s.status.flags) ∧
  t = { s with tables := t.tables, cmd := t.cmd, port := t.port, status := { s.status with flags := t.status.flags } }

theorem replaceStaging_replaces (b : Bank) (code : Word) {s : State} (hpending : s.tables.commitPending = false) :
    stagingReplacedBy b code s (replaceStaging b (verdict code .accepted 0 s)) := by
  rw [replaceStaging_eq, endStagingRead_eq]
  refine ⟨setBank_active _ _ _, activeBank_setStaging b s, stagingBank_setStaging b s,
    (setBank_commitPending _ _ _).trans hpending, rfl, rfl, ?_, rfl⟩
  by_cases hread : s.port.kind = .read ∧ s.port.bank = .staging
  · rw [if_pos hread]
    simp [hread]
  · rw [if_neg hread]
    simp [hread]

/-- Settles O10: the refusals of the two commands in order, and what they replace the staging bank by. -/
theorem stagingReplaced : Obligations.StagingReplaced := by
  refine ⟨fun s c r hs hc h => ?_, fun s c hs hpending hsession hsave hload hc => ?_⟩
  · rcases hc with rfl | rfl
    · exact refused_next hs rfl (replaceRefusal_eq_some h)
    · exact refused_next hs rfl (replaceRefusal_eq_some h)
  · have hnone := replaceRefusal_eq_none hpending hsession hsave hload
    rcases hc with rfl | rfl
    · exact ⟨_, accepted_next hs rfl hnone, replaceStaging_replaces (activeBank s) 0x12 hpending⟩
    · exact ⟨_, accepted_next hs rfl hnone, replaceStaging_replaces Bank.empty 0x13 hpending⟩

end Sys2Proof.Proofs
end

section
/-! Run control: RUN, STEP, STOP, PAUSE and the hold timer's expiry (O11, O15, O20, O21, O22), and RESUME's refusal. -/
namespace Sys2Proof.Proofs
open Sys2Proof.Machine

/-! ### RUN -/

theorem runModeOf_code (m : RunMode) : runModeOf m.code = m := by cases m <;> rfl

theorem runMode_code_le (m : RunMode) : m.code ≤ 3 := by cases m <;> decide

theorem word_eq_zero_iff (w : Word) : w = 0 ↔ w.toNat = 0 := BitVec.toNat_eq

theorem word_eq_one_iff (w : Word) : w = 1 ↔ w.toNat = 1 := BitVec.toNat_eq

/-- The argument check of RUN (R28). -/
theorem runArgs_eq_true_iff (s : State) :
    (arg 0 s ≤ 3 && arg 2 s ≤ 1 && !(arg 0 s = 1 && arg 1 s = 0)) = true ↔
      ¬(3 < (s.cmd.arg[0]).toNat ∨ 1 < (s.cmd.arg[2]).toNat ∨ (s.cmd.arg[0] = 1 ∧ s.cmd.arg[1] = 0)) := by
  simp only [Bool.and_eq_true, Bool.not_eq_true', decide_eq_true_eq, Bool.and_eq_false_iff, decide_eq_false_iff_not,
    word_eq_zero_iff, word_eq_one_iff]
  change ((s.cmd.arg[0]).toNat ≤ 3 ∧ (s.cmd.arg[2]).toNat ≤ 1) ∧ (¬(s.cmd.arg[0]).toNat = 1 ∨ ¬(s.cmd.arg[1]).toNat = 0) ↔ _
  omega

/-- An accepted RUN, field by field (R29). -/
theorem startRun_eq (mode : RunMode) (passes : Word) (fromBegin : Bool) (s : State) :
    startRun mode passes fromBegin s = makeEntry { s with
      triggers := { s.triggers with queue := [] }
      seq := { s.seq with
        mode := mode
        passesRequested := if mode = .passes then passes else if mode = .onePass then 1 else s.seq.passesRequested
        passesTaken := 0
        stopReason := .none
        pauseRequest := false
        position := if fromBegin then 0 else s.seq.position
        repetition := if fromBegin then 1 else s.seq.repetition
        passCount := if fromBegin then 0 else s.seq.passCount
        sequence := if fromBegin then 0 else s.seq.sequence } } := by
  cases fromBegin <;> cases mode <;> rfl

/-- Settles O11: the accepted RUN is `startRun`, and the refusals are read off in their order. -/
theorem runStartsOrIsRefused : Obligations.RunStartsOrIsRefused := by
  refine ⟨fun s mode hs hstopped horder hmode hpasses hbegin => ?_, fun s r hs h => ?_⟩
  · have hmodeOf : runModeOf (arg 0 s) = mode := (congrArg runModeOf hmode.symm).trans (runModeOf_code mode)
    have hargs := (runArgs_eq_true_iff s).mpr (by
      rintro (h3 | h2 | ⟨h0, h1⟩)
      · exact absurd (runMode_code_le mode) (by omega)
      · omega
      · refine hpasses ?_ h1
        rw [h0] at hmode
        revert hmode
        cases mode <;> decide)
    have hrefusal : firstRefusal [(s.seq.state != .stopped, .wrongState), ((activeBank s).order = [], .emptyProgram)] =
        none := by simp [firstRefusal, hstopped, horder]
    have hzero : arg 2 s = 0 ↔ s.cmd.arg[2] = 0 := (word_eq_zero_iff _).symm
    refine (accepted_next hs hargs hrefusal).trans ?_
    rw [startRun_eq, hmodeOf]
    simp only [verdict, decide_eq_true_eq, hzero]
  · by_cases hargs : 3 < (s.cmd.arg[0]).toNat ∨ 1 < (s.cmd.arg[2]).toNat ∨ (s.cmd.arg[0] = 1 ∧ s.cmd.arg[1] = 0)
    · rw [if_pos hargs] at h
      subst h
      exact badArgument_next hs (Bool.eq_false_iff.mpr fun htrue => (runArgs_eq_true_iff s).mp htrue hargs)
    · rw [if_neg hargs] at h
      refine refused_next hs ((runArgs_eq_true_iff s).mpr hargs) ?_
      by_cases hstopped : s.seq.state = .stopped
      · simp [hstopped] at h
        simp [firstRefusal, hstopped, h]
      · simp [hstopped] at h
        simp [firstRefusal, hstopped, h]

/-! ### PAUSE -/

/-- Settles O21: by the state of the Sequencer. -/
theorem pauseByState : Obligations.PauseByState := by
  refine ⟨fun s hs hstate => ?_, fun s hs hbegun => ?_, fun s hs hstate => ?_⟩
  · have hrefusal : firstRefusal [(s.seq.state = .paused, .wrongState), (s.seq.state = .stopped, .wrongState)] =
        none := by rcases hstate with h | ⟨h, -⟩ <;> simp [firstRefusal, h]
    exact (accepted_next hs rfl hrefusal).trans (congrArg _ (if_pos hstate))
  · have hrefusal : firstRefusal [(s.seq.state = .paused, .wrongState), (s.seq.state = .stopped, .wrongState)] =
        none := by rcases hbegun with h | h | h | ⟨h, -⟩ <;> simp [firstRefusal, h]
    have hstate : ¬(s.seq.state = .waiting ∨ (s.seq.state = .held ∧ s.seq.hold = .recordSpace)) := by
      rcases hbegun with h | h | h | ⟨h, hhold⟩
      · simp [h]
      · simp [h]
      · simp [h]
      · simp [h, hhold]
    exact (accepted_next hs rfl hrefusal).trans (congrArg _ (if_neg hstate))
  · exact refused_next hs rfl (by rcases hstate with h | h <;> simp [firstRefusal, h])

/-! ### STEP -/

/-- A step whose advance is taken now waits for its due instant unless its delay is 0 (R35). -/
theorem beginStep_now_waits {source : Option Source} {manual : Bool} {c : StepContext} {s : State}
    (h : c.record.delay ≠ 0) : beginStep source manual s.timebase.tsc c s = { s with seq := { s.seq with
      state := .delaying
      context := some { begunContext source manual s.timebase.tsc c with dueReached := false } } } := by
  refine (beginStep_begins source manual s.timebase.tsc c s).2 ?_
  have hdelay : c.record.delay.toNat ≠ 0 := fun h0 => h ((word_eq_zero_iff _).mpr h0)
  simpa using Nat.pos_of_ne_zero hdelay

/-- A step whose advance is taken now with a delay of 0 is due at once (R35). -/
theorem beginStep_now_due {source : Option Source} {manual : Bool} {c : StepContext} {s : State} (hs : s.inReset = false)
    (h : c.record.delay = 0) :
    Host.Outcome.next (beginStep source manual s.timebase.tsc c s) = exec .dueInstant { s with seq := { s.seq with
      state := .delaying
      context := some { begunContext source manual s.timebase.tsc c with due := s.timebase.tsc } } } := by
  have hdue : begunContext source manual s.timebase.tsc c =
      { begunContext source manual s.timebase.tsc c with due := s.timebase.tsc } := by simp [begunContext, h]
  rw [← hdue]
  exact ((beginStep_begins source manual s.timebase.tsc c s).1 hs (by simp [h])).symm

theorem exec_step_waiting {s : State} {c : StepContext} (hs : commandable s) (hmode : s.seq.mode = .manual)
    (hstate : s.seq.state = .waiting) (hc : s.seq.context = some c) :
    exec .step s = .next (beginStep none true s.timebase.tsc c (verdict 0x05 .accepted 0 s)) := by
  refine (accepted_next hs rfl (by simp [firstRefusal, hmode, hstate])).trans ?_
  simp [stepEffect, hc]

/-- Settles O15: STEP takes the advance now. -/
theorem stepTakesAdvance : Obligations.StepTakesAdvance := by
  refine ⟨fun s c hs hmode hstate hc hdelay => ?_, fun s c hs hmode hstate hc hdelay => ?_, fun s hs hnot => ?_⟩
  · exact (exec_step_waiting hs hmode hstate hc).trans
      (congrArg _ (beginStep_now_waits (s := verdict 0x05 .accepted 0 s) hdelay))
  · exact (exec_step_waiting hs hmode hstate hc).trans
      (beginStep_now_due (s := verdict 0x05 .accepted 0 s) hs.1 hdelay)
  · exact refused_next hs rfl (by simpa [firstRefusal] using hnot)

/-! ### Stops -/

/-- Accounting for the step touches the records, the counters, the flags and the sequence number alone. -/
theorem accountsForStep_frame {o : ShotOutcome} {s u : State} (h : accountsForStep o s u) : u = { s with
    records := u.records, counters := u.counters, status := u.status
    seq := { s.seq with sequence := u.seq.sequence } } := by
  obtain ⟨hnone, hsome⟩ := h
  rcases hc : s.seq.context with _ | c
  · rw [hnone hc]
  · obtain ⟨hnot, hbegun⟩ := hsome c hc
    rcases hb : c.begun with _ | _
    · rw [hnot hb]
    · obtain ⟨r, -, rfl⟩ := hbegun hb
      rw [recorded_frame]

theorem commitMade_frame (s : State) : commitMade s = { s with
    tables := { s.tables with
      active := if s.tables.commitPending = true then s.tables.active.other else s.tables.active
      commitPending := false }
    seq := { s.seq with
      position := if s.tables.commitPending = true then 0 else s.seq.position
      repetition := if s.tables.commitPending = true then 1 else s.seq.repetition }
    port := (commitMade s).port
    status := { s.status with flags := (commitMade s).status.flags } } := by
  by_cases h : s.tables.commitPending = true
  · simp [commitMade, h]
  · rw [Bool.not_eq_true] at h
    have htables : ({ s.tables with commitPending := false } : TableMemory) = s.tables := by rw [← h]
    simp [commitMade, h, htables]

/-- What a stop leaves of the state that has accounted for the step: its records, its counters and its sequence number. -/
theorem stopsFor_keeps {why : StopReason} {u t : State} (h : stopsFor why u t) :
    t.records = u.records ∧ t.counters = u.counters ∧ t.seq.sequence = u.seq.sequence := by
  obtain ⟨-, -, ht⟩ := h
  rw [ht, commitMade_frame]
  exact ⟨rfl, rfl, rfl⟩

/-- The cursor and the roles after a stop: those of a pending commit made, or as they were (R46, step 5). -/
theorem stopsFor_cursor {why : StopReason} {u t : State} (h : stopsFor why u t) :
    t.seq.position = (if u.tables.commitPending = true then 0 else u.seq.position) ∧
    t.seq.repetition = (if u.tables.commitPending = true then 1 else u.seq.repetition) ∧
    t.tables.active = (if u.tables.commitPending = true then u.tables.active.other else u.tables.active) ∧
    t.tables.commitPending = false := by
  obtain ⟨-, -, ht⟩ := h
  rw [ht, commitMade_frame]
  exact ⟨rfl, rfl, rfl, rfl⟩

/-- Settles O20: the stop accounts for the step and then stops; the cursor and the roles follow the pending commit. -/
theorem stopAccountsForStep : Obligations.StopAccountsForStep := by
  refine ⟨fun s hs hstopped => refused_next hs rfl (by simp [firstRefusal, hstopped]), fun s hs hstate => ?_⟩
  obtain ⟨u, haccounts, hstops⟩ := stopSequencer_stops .host (verdict 0x02 .accepted 0 s)
  refine ⟨u, _, accepted_next hs rfl (by simp [firstRefusal, hstate]), haccounts, hstops, ?_⟩
  obtain ⟨hposition, hrepetition, hactive, -⟩ := stopsFor_cursor hstops
  rw [hposition, hrepetition, hactive, accountsForStep_frame haccounts]
  by_cases hpending : s.tables.commitPending = true <;> simp [hpending]

/-- Settles O22: the expiry is a stop, and a step that is not begun gives back its request. -/
theorem holdTimeoutStops : Obligations.HoldTimeoutStops := by
  intro s c hs hstate htimer hc
  have hover : holdTimerOver s = true := (holdTimerOver_iff s).mpr ⟨hstate, htimer⟩
  obtain ⟨u, haccounts, hstops⟩ := stopSequencer_stops .holdTimeout s
  refine ⟨u, stopSequencer .holdTimeout s,
    congrArg _ ((outOfReset_released hs).trans (if_pos hover)), haccounts, hstops, fun hbegun => ?_⟩
  obtain ⟨hrecords, -, hsequence⟩ := stopsFor_keeps hstops
  rw [hrecords, hsequence, (haccounts.2 c hc).1 hbegun]
  exact ⟨rfl, rfl, rfl⟩

end Sys2Proof.Proofs
end

section
/-! The entry of a step and the Trigger Queue: RESUME, the entry, the serve, arrivals and edges (O12, O13, O14, O24, O25). -/
namespace Sys2Proof.Proofs
open Sys2Proof.Machine

/-! ### The entry at the cursor -/

/-- The state in which the step at the cursor has been read and, under record policy HOLD, a place reserved (R31, R120). -/
def enteredState (s : State) (e : OrderEntry) (r : StepRecord) : State :=
  { s with
    records := { s.records with reserved := if s.policy.recordPolicy = .hold then true else s.records.reserved }
    seq := { s.seq with context := some (freshContext s e r) } }

/-- With a place, and under DROP, the entry is an entry into WAITING. -/
theorem makeEntry_of_place {s : State} {e : OrderEntry} {r : StepRecord} (hcur : atCursor s = some (e, r))
    (hplace : s.policy.recordPolicy = .hold → placesTaken s < 32) :
    makeEntry s = enterWaiting (freshContext s e r) (enteredState s e r) := by
  simp only [makeEntry, hcur, enteredState]
  cases hpolicy : s.policy.recordPolicy with
  | hold =>
    simp only [if_pos (hplace hpolicy), if_true]
    rfl
  | drop =>
    simp only [reduceCtorEq, if_false]
    rfl

/-- With no place free the entry is a hold for record space (R31, R44). -/
theorem makeEntry_of_full {s : State} {e : OrderEntry} {r : StepRecord} (hcur : atCursor s = some (e, r))
    (hpolicy : s.policy.recordPolicy = .hold) (hfull : 32 ≤ placesTaken s) :
    makeEntry s = enterHeld .recordSpace { setContext (freshContext s e r) s with
      records := { s.records with waitingRequest := true } } := by
  simp only [makeEntry, hcur, hpolicy, if_neg (Nat.not_lt.mpr hfull)]
  rfl

/-- Settles O13: the two ways of an entry by the record policy. -/
theorem entryWaitsOrHolds : Obligations.EntryWaitsOrHolds := by
  refine fun s e r hcur => ⟨fun hpolicy hfull => makeEntry_of_full hcur hpolicy hfull, fun hplace => ?_⟩
  rw [makeEntry_of_place hcur hplace]
  exact enterWaiting_enters _ _

/-- An IMMEDIATE step with a place is begun as it is entered (R33, R35). -/
theorem makeEntry_immediate {s : State} {e : OrderEntry} {r : StepRecord} (hcur : atCursor s = some (e, r))
    (himmediate : r.advance = .immediate) (hmode : s.seq.mode ≠ .manual)
    (hplace : s.policy.recordPolicy = .hold → placesTaken s < 32) :
    makeEntry s = beginStep none false s.timebase.tsc (freshContext s e r) { enteredState s e r with
      seq := { s.seq with
        state := .waiting, hold := .none, holdTimer := none, context := some (freshContext s e r) } } := by
  rw [makeEntry_of_place hcur hplace]
  have hadvance : (freshContext s e r).record.advance = .immediate := himmediate
  simp only [enterWaiting, hadvance]
  exact if_neg hmode

/-- Settles O12: RESUME makes the entry, and an IMMEDIATE step at the cursor is begun at once. -/
theorem resumeMakesEntry : Obligations.ResumeMakesEntry := by
  refine ⟨fun s hs hpaused => accepted_next hs rfl (by simp [firstRefusal, hpaused]),
    fun s hs hpaused => refused_next hs rfl (by simp [firstRefusal, hpaused]),
    fun s e r hcur himmediate hdelay hmode hplace => ?_, fun s e r hreset hcur himmediate hdelay hmode hplace => ?_⟩
  · rw [makeEntry_immediate hcur himmediate hmode hplace]
    exact beginStep_now_waits (c := freshContext s e r) hdelay
  · rw [makeEntry_immediate hcur himmediate hmode hplace]
    exact beginStep_now_due (c := freshContext s e r) hreset hdelay

/-! ### The serve -/

theorem countUp_stray (n : Nat) (s : State) : countUp strayCounter n s = { s with counters := { s.counters with
    value := s.counters.value.set 2 (word (min 65535 ((s.counters.value[2]).toNat + n))) } } := rfl

/-- R67, R70: the oldest match is handed over, and the entries ahead of it are counted as STRAY. -/
theorem serve_oldest {s : State} {mask : SourceMask} {strays rest : List Arrival} {a : Arrival} (c : StepContext)
    (hqueue : s.triggers.queue = strays ++ a :: rest) (hstrays : ∀ x ∈ strays, accepts mask x.source = false)
    (ha : accepts mask a.source = true) :
    serve mask c s = beginStep (some a.source) false a.time c
      (countUp strayCounter strays.length { s with triggers := { s.triggers with queue := rest } }) := by
  have hdrop : s.triggers.queue.dropWhile (fun x => !accepts mask x.source) = a :: rest := by
    rw [hqueue, List.dropWhile_append_of_pos (by simpa using hstrays)]
    simp [ha]
  have hcount : s.triggers.queue.length - (rest.length + 1) = strays.length := by simp [hqueue]
  simp only [serve, hdrop, hcount]

/-- Settles O14: the serve hands over the oldest match, and a begun step is due at once or waits. -/
theorem serveTakesOldestMatch : Obligations.ServeTakesOldestMatch := by
  refine ⟨fun s mask c strays rest a hqueue hstrays ha => ?_, fun s source manual reference c hs => ?_⟩
  · rw [serve_oldest c hqueue hstrays ha, countUp_stray]
  obtain ⟨hdue, hwaits⟩ := beginStep_begins source manual reference c s
  exact ⟨fun h => (hdue hs h).symm, hwaits⟩

/-! ### Arrivals -/

/-- The acceptance check (R63). -/
theorem isEarly_iff (src : Source) (s : State) : isEarly src s = true ↔
    s.seq.state = .stopped ∨ s.seq.mode = .manual ∨ (s.policy.acceptance = .onlyWhenWaiting ∧
      ¬(s.seq.state = .waiting ∧ ∃ c mask, s.seq.context = some c ∧ c.record.advance = .trigger mask ∧
        accepts mask src = true)) := by
  rcases hc : s.seq.context with _ | c
  · simp [isEarly, hc, or_assoc]
  · cases hadvance : c.record.advance with
    | immediate => simp [isEarly, hc, hadvance, or_assoc]
    | trigger mask => simp [isEarly, hc, hadvance, or_assoc, imp_iff_not_or]

theorem arrive_early {src : Source} {s : State} (h : isEarly src s = true) : arrive src s = countUp earlyCounter 1 s :=
  if_pos h

theorem arrive_overrun {src : Source} {s : State} (hearly : isEarly src s = false) (hfull : 8 ≤ s.triggers.queue.length) :
    arrive src s = raise trigOverrunFlag (countUp overrunCounter 1 s) := by
  simp [arrive, hearly, Nat.not_lt.mpr hfull]

/-- The state with an arrival from a source at the tail of the Trigger Queue (R66). -/
def enqueued (src : Source) (s : State) : State :=
  { s with triggers := { s.triggers with
    queue := s.triggers.queue ++ [{ source := src, time := s.timebase.tsc }] } }

theorem arrive_queued {src : Source} {s : State} (hearly : isEarly src s = false) (hroom : s.triggers.queue.length < 8) :
    arrive src s = serveWaiting (enqueued src s) := by simp [arrive, hearly, hroom, enqueued]

theorem serveWaiting_of_ne_waiting {s : State} (h : s.seq.state ≠ .waiting) : serveWaiting s = s := by
  rcases hc : s.seq.context with _ | c
  · simp [serveWaiting, hc]
  · cases hadvance : c.record.advance <;> simp [serveWaiting, hc, hadvance, h]

theorem serveWaiting_trigger {s : State} {c : StepContext} {mask : SourceMask} (hstate : s.seq.state = .waiting)
    (hc : s.seq.context = some c) (hadvance : c.record.advance = .trigger mask) : serveWaiting s = serve mask c s := by
  simp [serveWaiting, hc, hadvance, hstate]

theorem not_early_of_queueAny {src : Source} {s : State} (hstopped : s.seq.state ≠ .stopped)
    (hmode : s.seq.mode ≠ .manual) (hpolicy : s.policy.acceptance = .queueAny) : isEarly src s = false := by
  rw [Bool.eq_false_iff, Ne, isEarly_iff]
  simp [hstopped, hmode, hpolicy]

/-- Settles O24: by the acceptance check, the room in the queue, and the waiting step. -/
theorem softTriggerArrives : Obligations.SoftTriggerArrives := by
  refine fun s hs => ⟨accepted_next hs rfl rfl, fun src h => arrive_early ((isEarly_iff src s).mpr h),
    fun src hstopped hmode hpolicy hfull => arrive_overrun (not_early_of_queueAny hstopped hmode hpolicy) hfull,
    fun src hstopped hwaiting hmode hpolicy hroom => ?_, fun src c mask hstate hmode hc hadvance hmask hroom => ?_,
    fun src c mask hstate hmode hpolicy hc hadvance hmask hqueue hroom => ?_⟩
  · rw [arrive_queued (not_early_of_queueAny hstopped hmode hpolicy) hroom]
    exact serveWaiting_of_ne_waiting hwaiting
  · have hearly : isEarly src s = false := by
      rw [Bool.eq_false_iff, Ne, isEarly_iff]
      rintro (h | h | ⟨-, h⟩)
      · simp [hstate] at h
      · exact hmode h
      · exact h ⟨hstate, c, mask, hc, hadvance, hmask⟩
    rw [arrive_queued hearly hroom]
    exact serveWaiting_trigger hstate hc hadvance
  · have hearly : isEarly src s = false := not_early_of_queueAny (by simp [hstate]) hmode hpolicy
    rw [arrive_queued hearly hroom, serveWaiting_trigger (s := enqueued src s) hstate hc hadvance]
    refine serve_none fun a ha => ?_
    rcases List.mem_append.mp ha with hin | hnew
    · exact hqueue a hin
    · rw [List.mem_singleton.mp hnew]
      exact hmask

/-! ### Edges -/

/-- The edges that an edge select passes (R58). -/
theorem passes_eq_false {x : EdgeSelect} {level : Bool}
    (h : x = .off ∨ (x = .rising ∧ level = false) ∨ (x = .falling ∧ level = true)) : x.passes level = false := by
  rcases h with rfl | ⟨rfl, rfl⟩ | ⟨rfl, rfl⟩ <;> rfl

theorem passes_eq_true {x : EdgeSelect} {level : Bool}
    (h : x = .both ∨ (x = .rising ∧ level = true) ∨ (x = .falling ∧ level = false)) : x.passes level = true := by
  rcases h with rfl | ⟨rfl, rfl⟩ | ⟨rfl, rfl⟩ <;> rfl

theorem senseEdge_of_blocked {s : State} {i : Fin 4} {level : Bool}
    (h : (s.triggers.inputs[i]).select.passes level = false) :
    senseEdge i level s = setInput i { s.triggers.inputs[i] with level := level } s := by
  simp only [senseEdge, h, Bool.not_false, Bool.or_true, if_true]

/-- An edge that the select passes meets the holdoff window (R59). -/
theorem senseEdge_of_passed {s : State} {i : Fin 4} {level : Bool} (hs : s.inReset = false)
    (hlevel : level ≠ (s.triggers.inputs[i]).level) (h : (s.triggers.inputs[i]).select.passes level = true) :
    senseEdge i level s = if (s.triggers.inputs[i]).windowOpen s.timebase.tsc then
        countUp (suppressedCounter i) 1 (setInput i { s.triggers.inputs[i] with level := level } s)
      else arrive (pinSource i) (setInput i { s.triggers.inputs[i] with
        level := level, window := (s.triggers.inputs[i]).newWindow s.timebase.tsc } s) := by
  simp only [senseEdge, hs, h, beq_false_of_ne hlevel, Bool.or_self, Bool.not_true, Bool.false_eq_true, if_false]

theorem windowOpen_eq_false {x : TriggerInput} {now : Time} (h : ∀ w, x.window = some w → hasCome now w = true) :
    x.windowOpen now = false := by
  unfold TriggerInput.windowOpen
  rcases hw : x.window with _ | w
  · rfl
  · simp only [h w hw, Bool.not_true]

/-- Settles O25: by the edge select and the holdoff window. -/
theorem triggerEdgeFiltered : Obligations.TriggerEdgeFiltered := by
  refine ⟨fun s i level hs hlevel => ⟨fun hoff => ?_, fun hpass => ⟨fun w hw hopen => ?_, fun hclosed => ?_⟩⟩,
    fun s i w hs hw => ?_⟩
  · exact congrArg Host.Outcome.next (senseEdge_of_blocked (passes_eq_false hoff))
  · have hwindow : (s.triggers.inputs[i]).windowOpen s.timebase.tsc = true := by
      simp only [TriggerInput.windowOpen, hw, hopen, Bool.not_false]
    exact congrArg Host.Outcome.next ((senseEdge_of_passed hs hlevel (passes_eq_true hpass)).trans (if_pos hwindow))
  · have hwindow := Bool.eq_false_iff.mp (windowOpen_eq_false hclosed)
    exact congrArg Host.Outcome.next ((senseEdge_of_passed hs hlevel (passes_eq_true hpass)).trans (if_neg hwindow))
  · refine congrArg Host.Outcome.next ((outOfReset_released hs).trans ?_)
    simp only [closeWindow, hw]
    rfl

end Sys2Proof.Proofs
end

section
/-! Channels, outputs, records and SOFT_RESET: UNLOCK_CHANNEL and PULSE_SYNC (O32, O33), the head record and the freed place
(O36, O37), emission (O38), and SOFT_RESET (O54). -/
namespace Sys2Proof.Proofs
open Sys2Proof.Machine

/-! ### UNLOCK_CHANNEL -/

theorem unlockTarget_eq {s : State} {n : Fin 8} (h : (s.cmd.arg[0]).toNat = n.val) : unlockTarget s = n := by
  have harg : arg 0 s = n.val := h
  simp [unlockTarget, harg]

/-- Settles O32: the refusals in their order, and the release. -/
theorem unlockChannelReleases : Obligations.UnlockChannelReleases := by
  refine ⟨fun s hs hargs => badArgument_next hs (decide_eq_false (Nat.not_le.mpr hargs)), fun s n hs hn => ?_⟩
  have hargs : decide (arg 0 s ≤ 7) = true := decide_eq_true (hn.trans_le (Nat.le_of_lt_succ n.isLt))
  obtain rfl := unlockTarget_eq hn
  by_cases hlocked : (s.channels.channel[unlockTarget s]).locked = false
  · rw [if_pos hlocked]
    exact refused_next hs hargs (by rw [hlocked]; rfl)
  · rw [if_neg hlocked]
    rw [Bool.not_eq_false] at hlocked
    by_cases hline : (s.channels.channel[unlockTarget s]).faultLine = true
    · rw [if_pos hline]
      exact refused_next hs hargs (by rw [hlocked, hline]; rfl)
    · rw [if_neg hline]
      rw [Bool.not_eq_true] at hline
      exact accepted_next hs hargs (by rw [hlocked, hline]; rfl)

/-! ### PULSE_SYNC -/

theorem pulseTarget_eq {s : State} {i : Fin 4} (h : (s.cmd.arg[0]).toNat = i.val) : pulseTarget s = i := by
  have harg : arg 0 s = i.val := h
  simp [pulseTarget, harg]

theorem pulseArgs_eq_true_iff (s : State) : (arg 0 s ≤ 3 && 1 ≤ arg 1 s && arg 1 s ≤ 16383) = true ↔
    ¬(3 < (s.cmd.arg[0]).toNat ∨ s.cmd.arg[1] = 0 ∨ 16383 < (s.cmd.arg[1]).toNat) := by
  simp only [Bool.and_eq_true, decide_eq_true_eq, word_eq_zero_iff]
  change ((s.cmd.arg[0]).toNat ≤ 3 ∧ 1 ≤ (s.cmd.arg[1]).toNat) ∧ (s.cmd.arg[1]).toNat ≤ 16383 ↔ _
  omega

/-- Settles O33: the argument check, the state of the Sequencer and of the output. -/
theorem pulseSyncStartsManualPulse : Obligations.PulseSyncStartsManualPulse := by
  refine ⟨fun s hs hargs => badArgument_next hs (Bool.eq_false_iff.mpr fun htrue => (pulseArgs_eq_true_iff s).mp htrue hargs),
    fun s i hs hi hwidth hmax => ?_⟩
  have hargs := (pulseArgs_eq_true_iff s).mpr (by
    have hlt := i.isLt
    rintro (h | h | h)
    · omega
    · exact hwidth h
    · omega)
  obtain rfl := pulseTarget_eq hi
  by_cases hidle : (s.seq.state = .stopped ∨ s.seq.state = .paused) ∧ (s.syncs[pulseTarget s]).pulse = .idle
  · rw [if_pos hidle]
    obtain ⟨hstate, hpulse⟩ := hidle
    refine accepted_next hs hargs ?_
    rw [hpulse]
    rcases hstate with h | h <;> simp [firstRefusal, h]
  · rw [if_neg hidle]
    refine refused_next hs hargs ?_
    by_cases hpulse : (s.syncs[pulseTarget s]).pulse = .idle
    · have hstate : ¬(s.seq.state = .stopped ∨ s.seq.state = .paused) := fun h => hidle ⟨h, hpulse⟩
      rw [not_or] at hstate
      simp [firstRefusal, hstate]
    · rw [Fin.getElem_fin] at hpulse
      simp [firstRefusal, hpulse]

/-! ### The head record -/

theorem flagNat_mul (b : Bool) (n : Nat) : flagNat b * n = if b = true then n else 0 := by cases b <;> simp [flagNat]

/-- REC0 to REC9 stand at 0x24 to 0x2D (10.2). -/
theorem registerWord_record {addr : BitVec 6} {k : Nat} (hk : k ≤ 9) (haddr : addr.toNat = 0x24 + k) (s : State) :
    registerWord addr s = headWord k s := by
  unfold registerWord
  rw [haddr]
  interval_cases k <;> rfl

theorem readRegister_record {s : State} {r : ShotRecord} {rest : List ShotRecord} (hs : s.inReset = false)
    (hqueue : s.records.queue = r :: rest) {addr : BitVec 6} {k : Nat} (hk : k ≤ 9) (haddr : addr.toNat = 0x24 + k) :
    readRegister addr s = r.recWord k := by
  rw [readRegister, hs, if_neg Bool.false_ne_true, registerWord_record hk haddr, headWord, hqueue]

theorem popRecord_of_no_request {s : State} {r : ShotRecord} {rest : List ShotRecord} (hqueue : s.records.queue = r :: rest)
    (hrequest : s.records.waitingRequest = false) :
    popRecord s = { s with records := { s.records with queue := rest } } := by
  simp only [popRecord, hqueue, grantWaiting, hrequest, Bool.false_eq_true, if_false]

theorem exec_rec9Read {s : State} (hs : s.inReset = false) :
    exec .rec9Read s = .next { popRecord s with readData := headWord 9 s } :=
  congrArg Host.Outcome.next (readAccess_released hs)

/-- Settles O36: the words of the head record, and the pop. -/
theorem rec9ReadPops : Obligations.Rec9ReadPops := by
  refine ⟨fun s r rest hs hqueue hrequest => ?_, fun s hs hqueue => ?_, fun s r rest hs hqueue => ?_,
    fun s addr hqueue hlow hhigh => ?_⟩
  · rw [exec_rec9Read hs, popRecord_of_no_request hqueue hrequest, headWord, hqueue]
    rfl
  · rw [exec_rec9Read hs, popRecord, headWord, hqueue]
  · have hword : ∀ (addr : BitVec 6) (k : Nat), k ≤ 9 → addr.toNat = 0x24 + k → readRegister addr s = r.recWord k :=
      fun _ _ hk haddr => readRegister_record hs hqueue hk haddr
    refine ⟨hword 0x24 0 (by decide) rfl, hword 0x25 1 (by decide) rfl, ?_, hword 0x27 3 (by decide) rfl, ?_,
      hword 0x29 5 (by decide) rfl, hword 0x2A 6 (by decide) rfl, hword 0x2B 7 (by decide) rfl,
      hword 0x2C 8 (by decide) rfl, hword 0x2D 9 (by decide) rfl⟩
    · rw [hword 0x26 2 (by decide) rfl, ShotRecord.recWord]
      cases r.source <;> rfl
    · rw [hword 0x28 4 (by decide) rfl, ShotRecord.recWord]
      simp only [flagNat_mul]
      cases r.outcome <;> rfl
  · have haddr : addr.toNat = 0x24 + (addr.toNat - 0x24) := by omega
    rw [readRegister, registerWord_record (by omega) haddr, headWord, hqueue]
    exact ite_self 0

/-! ### The freed place -/

/-- A grant is an entry into WAITING with the place reserved (R123). -/
theorem grantWaiting_enters {s : State} {c : StepContext} (hrequest : s.records.waitingRequest = true)
    (hc : s.seq.context = some c) : entersWaiting c
      { s with records := { s.records with reserved := true, waitingRequest := false } } (grantWaiting s) := by
  simp only [grantWaiting, hrequest, if_true, hc]
  exact enterWaiting_enters _ _

/-- Settles O37: a grant enters WAITING; FLUSH_RECORDS and CLEAR_COUNTERS otherwise clear. -/
theorem flushAndFreedPlace : Obligations.FlushAndFreedPlace := by
  refine ⟨fun s c r rest hs hqueue hrequest hc => ⟨?_, ?_⟩, fun s hs hrequest => ?_, fun s hs => ?_⟩
  · refine ⟨popRecord s, ?_, ?_⟩
    · rw [exec_rec9Read hs.1, headWord, hqueue]
      rfl
    · have hpop : popRecord s = grantWaiting { s with records := { s.records with queue := rest } } := by
        rw [popRecord, hqueue]
      rw [hpop]
      exact grantWaiting_enters (s := { s with records := { s.records with queue := rest } }) hrequest hc
  · exact ⟨_, accepted_next hs rfl rfl, grantWaiting_enters
      (s := { verdict 0x28 .accepted 0 s with records := { s.records with queue := [] } }) hrequest hc⟩
  · exact (accepted_next hs rfl rfl).trans (congrArg _ (if_neg (Bool.eq_false_iff.mp hrequest)))
  · exact ⟨_, accepted_next hs rfl rfl, fun i => by simp [zeroCounters], rfl⟩

/-! ### SOFT_RESET -/

theorem cutPulses_pulse (s : State) (i : Fin 4) :
    (cutPulses s).syncs[i] = { s.syncs[i] with pulse := .idle } := by simp [cutPulses]

theorem softAbort_eq (s : State) : softAbort s = { s with
    store := if s.store.job = .idle then s.store else { s.store with abortPending := true, quiet := true } } := by
  by_cases h : s.store.job = .idle <;> simp [softAbort, storeBusy, h]

/-- Settles O54: the effect in every block. -/
theorem softResetActs : Obligations.SoftResetActs := by
  refine fun s hs => ⟨_, accepted_next hs rfl rfl, ?_⟩
  rw [softResetEffect, softAbort_eq]
  refine ⟨rfl, fun i => closeGates_channel s i, fun i => cutPulses_pulse s i, fun i => by simp [zeroCounters], rfl, rfl⟩

end Sys2Proof.Proofs
end

section
/-! Emission and the completion of a step: the record that is stored or lost (O38), the advancing cursor (O18), and the pass
boundary (O19). -/
namespace Sys2Proof.Proofs
open Sys2Proof.Machine

/-! ### What a run does to the Record Queue -/

/-- The records of a list stand at the head of the queue. -/
def queuedFirst (q : List ShotRecord) (s : State) : Prop := q <+: s.records.queue

theorem recorded_queuedFirst {q : List ShotRecord} {r : ShotRecord} {s : State} (h : queuedFirst q s) :
    queuedFirst q (recorded r s) := by
  unfold recorded
  split_ifs
  · exact h.trans (List.prefix_append _ _)
  · exact h.trans (List.prefix_append _ _)
  · exact h

theorem accountForStep_queuedFirst {q : List ShotRecord} (o : ShotOutcome) {s : State} (h : queuedFirst q s) :
    queuedFirst q (accountForStep o s) := by
  obtain ⟨hnone, hsome⟩ := accountForStep_accounts o s
  rcases hc : s.seq.context with _ | c
  · rw [hnone hc]
    exact h
  · obtain ⟨hnot, hbegun⟩ := hsome c hc
    rcases hb : c.begun with _ | _
    · rw [hnot hb]
      exact h
    · obtain ⟨r, -, hu⟩ := hbegun hb
      rw [hu]
      exact recorded_queuedFirst (r := r) h

theorem stopSequencer_queuedFirst {q : List ShotRecord} (why : StopReason) {s : State} (h : queuedFirst q s) :
    queuedFirst q (stopSequencer why s) := by
  simpa [queuedFirst, stopSequencer] using accountForStep_queuedFirst _ h

theorem afterCheck_queuedFirst {q : List ShotRecord} (c : StepContext) {s : State} (h : queuedFirst q s) :
    queuedFirst q (afterCheck c s) := by
  have hraise : queuedFirst q (raiseShortage c s) := by simpa [queuedFirst] using h
  rcases afterCheck_cases c s with ⟨_, _, _, heq⟩ | ⟨_, _, _, heq⟩ | ⟨_, _, _, heq⟩ | ⟨_, heq⟩ <;> rw [heq]
  · simpa [queuedFirst] using h
  · exact hraise
  · exact hraise
  · exact stopSequencer_queuedFirst _ hraise

theorem beginStep_queuedFirst {q : List ShotRecord} (source : Option Source) (manual : Bool) (reference : Time)
    (c : StepContext) {s : State} (h : queuedFirst q s) : queuedFirst q (beginStep source manual reference c s) := by
  unfold beginStep
  rcases tryExposure_cases _ with heq | ⟨c, _, _, _, _, heq⟩ <;> rw [heq]
  · exact h
  · exact afterCheck_queuedFirst _ h

theorem serve_queuedFirst {q : List ShotRecord} (mask : SourceMask) (c : StepContext) {s : State} (h : queuedFirst q s) :
    queuedFirst q (serve mask c s) := by
  unfold serve
  split
  · exact h
  · exact beginStep_queuedFirst _ _ _ _ h

theorem enterWaiting_queuedFirst {q : List ShotRecord} (c : StepContext) {s : State} (h : queuedFirst q s) :
    queuedFirst q (enterWaiting c s) := by
  rcases enterWaiting_cases c s with ⟨_, heq⟩ | ⟨_, _, heq⟩ | ⟨_, _, _, heq⟩ <;> rw [heq]
  · exact h
  · exact beginStep_queuedFirst _ _ _ _ h
  · exact serve_queuedFirst _ _ h

theorem makeEntry_queuedFirst {q : List ShotRecord} {s : State} (h : queuedFirst q s) : queuedFirst q (makeEntry s) := by
  rcases makeEntry_cases s with ⟨_, heq⟩ | ⟨e, r, _, ⟨_, _, heq⟩ | ⟨_, _, heq⟩ | ⟨_, heq⟩⟩ <;> rw [heq]
  · exact h
  · exact enterWaiting_queuedFirst _ h
  · exact h
  · exact enterWaiting_queuedFirst _ h

theorem goOn_queuedFirst {q : List ShotRecord} (halt : Bool) {s : State} (h : queuedFirst q s) :
    queuedFirst q (goOn halt s) := by
  unfold goOn
  split_ifs
  · exact h
  · exact makeEntry_queuedFirst h

/-! ### The completion -/

/-- The gap of the step in SETTLING has run, and the step completes (R39, R40). -/
theorem exec_gapEnd {s : State} {c : StepContext} {g : Time} (hs : s.inReset = false) (hstate : s.seq.state = .settling)
    (hc : s.seq.context = some c) (hg : c.gapStart = some g) (hgap : c.record.gap.toNat ≤ (s.timebase.tsc - g).toNat) :
    exec .gapEnd s = .next (completeStep c s) := by
  have hover : gapOver s c = true := (gapOver_iff s c).mpr ⟨hstate, g, hg, hgap⟩
  refine congrArg Host.Outcome.next ((outOfReset_released hs).trans ?_)
  simp only [endGap, hc, hover, if_true]

/-- The state with a step's DONE record handed over and the step forgotten (R40). -/
def handedOver (c : StepContext) (s : State) : State :=
  { recorded (shotRecord .done c s) s with
    seq := { s.seq with sequence := s.seq.sequence + 1, context := none } }

theorem completeStep_eq (c : StepContext) (s : State) : completeStep c s =
    if s.seq.repetition < c.entry.count then
      goOn false { handedOver c s with seq := { (handedOver c s).seq with repetition := s.seq.repetition + 1 } }
    else if s.seq.position + 1 < (activeBank s).order.length then
      goOn c.entry.haltAfter { handedOver c s with
        seq := { (handedOver c s).seq with position := s.seq.position + 1, repetition := 1 } }
    else if runEnds (passBoundary (handedOver c s)).seq then stopSequencer .finished (passBoundary (handedOver c s))
    else goOn c.entry.haltAfter (passBoundary (handedOver c s)) := by
  rw [completeStep, emit_eq]
  rfl

theorem goOn_makes_entry {halt : Bool} {s : State} (hhalt : halt = false) (hpause : s.seq.pauseRequest = false) :
    goOn halt s = makeEntry s := by simp [goOn, hhalt, hpause]

theorem goOn_pauses {halt : Bool} {s : State} (h : halt = true ∨ s.seq.pauseRequest = true) :
    goOn halt s = enterPaused s := if_pos ((Bool.or_eq_true _ _).mpr h)

/-- Settles O18: the cursor after a completion short of a pass boundary. -/
theorem completionAdvancesCursor : Obligations.CompletionAdvancesCursor := by
  intro s c g hs hstate hc hg hgap
  rw [exec_gapEnd hs hstate hc hg hgap, completeStep_eq]
  refine ⟨fun hrepeats => ⟨_, rfl, fun hpause => ?_, fun hpause => ?_⟩,
    fun hlast hposition => ⟨_, rfl, fun hhalt hpause => ?_, fun hpauses => ?_⟩⟩
  · rw [if_pos hrepeats]
    exact congrArg _ (goOn_makes_entry rfl hpause)
  · rw [if_pos hrepeats]
    exact congrArg _ (goOn_pauses (.inr hpause))
  · rw [if_neg (Nat.not_lt.mpr hlast), if_pos hposition]
    exact congrArg _ (goOn_makes_entry hhalt hpause)
  · rw [if_neg (Nat.not_lt.mpr hlast), if_pos hposition]
    exact congrArg _ (goOn_pauses hpauses)

/-! ### The pass boundary -/

theorem passBoundary_eq (s : State) : passBoundary s =
    { commitMade (countPass s) with seq := { (commitMade (countPass s)).seq with position := 0, repetition := 1 } } := by
  rw [passBoundary, swapIfPending_eq]

/-- What a pass boundary leaves of the Sequencer: the run mode, the counts, and no step. -/
theorem passBoundary_seq (s : State) :
    (passBoundary s).seq = { (countPass s).seq with position := 0, repetition := 1 } := by
  rw [passBoundary_eq, commitMade_frame]

theorem runEnds_iff (q : Sequencer) : runEnds q = true ↔
    q.mode = .onePass ∨ (q.mode = .passes ∧ q.passesTaken = q.passesRequested) := by
  unfold runEnds
  cases q.mode <;> simp

/-- The run ends at the pass boundary that completes a step (R30). -/
theorem runEnds_passBoundary (c : StepContext) (s : State) : runEnds (passBoundary (handedOver c s)).seq = true ↔
    s.seq.mode = .onePass ∨ (s.seq.mode = .passes ∧
      word (min 65535 (s.seq.passesTaken.toNat + 1)) = s.seq.passesRequested) := by
  rw [runEnds_iff, passBoundary_seq]
  refine or_congr Iff.rfl (and_congr_right fun (hmode : s.seq.mode = .passes) => ?_)
  have htaken : (countPass (handedOver c s)).seq.passesTaken = word (min 65535 (s.seq.passesTaken.toNat + 1)) :=
    if_pos hmode
  exact Eq.congr_left htaken

theorem countPass_handedOver (c : StepContext) (s : State) :
    countPass (handedOver c s) = { recorded (shotRecord .done c s) s with
      status := { s.status with flags := (recorded (shotRecord .done c s) s).status.flags ||| passEndFlag }
      seq := { s.seq with
        passCount := word (min 65535 (s.seq.passCount.toNat + 1))
        passesTaken := if s.seq.mode = .passes then word (min 65535 (s.seq.passesTaken.toNat + 1))
          else s.seq.passesTaken
        sequence := s.seq.sequence + 1
        context := none } } := by
  have hirq : (recorded (shotRecord .done c s) s).status.irqEnable = s.status.irqEnable := by rw [recorded_frame]
  dsimp only
  rw [← hirq]
  rfl

/-- Settles O19: the boundary counts the pass and makes a pending commit; the run mode decides. -/
theorem passBoundaryEndsOnePassRun : Obligations.PassBoundaryEndsOnePassRun := by
  intro s c g hs hstate hc hg hgap hlast hposition
  refine ⟨countPass (handedOver c s), passBoundary (handedOver c s), countPass_handedOver c s, passBoundary_eq _, ?_⟩
  rw [exec_gapEnd hs hstate hc hg hgap, completeStep_eq, if_neg (Nat.not_lt.mpr hlast), if_neg (Nat.not_lt.mpr hposition)]
  refine ⟨fun hends => ?_, fun hgoes => ?_⟩
  · rw [if_pos ((runEnds_passBoundary c s).mpr hends)]
    obtain ⟨u, ⟨hnone, -⟩, hstops⟩ := stopSequencer_stops .finished (passBoundary (handedOver c s))
    have hcontext : (passBoundary (handedOver c s)).seq.context = none := by
      rw [passBoundary_seq]
      rfl
    rw [hnone hcontext] at hstops
    obtain ⟨hp, hr, -, hpending⟩ := stopsFor_cursor hstops
    rw [passBoundary_seq] at hp hr
    exact ⟨_, rfl, hstops, hp.trans (ite_self 0), hr.trans (ite_self 1), hpending⟩
  · have hends : ¬runEnds (passBoundary (handedOver c s)).seq = true := by
      rw [runEnds_passBoundary]
      rintro (h | ⟨h, htaken⟩)
      · simp [h] at hgoes
      · simp [h, htaken] at hgoes
    have hpause : (passBoundary (handedOver c s)).seq.pauseRequest = s.seq.pauseRequest := by
      rw [passBoundary_seq]
      rfl
    rw [if_neg hends]
    by_cases h : c.entry.haltAfter = true ∨ s.seq.pauseRequest = true
    · rw [if_pos h, goOn_pauses (hpause ▸ h)]
      rfl
    · rw [if_neg h]
      rw [not_or, Bool.not_eq_true, Bool.not_eq_true] at h
      rw [goOn_makes_entry h.1 (hpause.trans h.2)]

/-! ### Emission -/

/-- A completion leaves the step's record behind those queued, whatever the next step adds. -/
theorem completeStep_queuedFirst {q : List ShotRecord} {c : StepContext} {s : State} (h : queuedFirst q (handedOver c s)) :
    queuedFirst q (completeStep c s) := by
  have hboundary : queuedFirst q (passBoundary (handedOver c s)) := by
    rw [queuedFirst, passBoundary_eq, commitMade_frame]
    exact h
  rw [completeStep_eq]
  split_ifs
  · exact goOn_queuedFirst _ h
  · exact goOn_queuedFirst _ h
  · exact stopSequencer_queuedFirst _ hboundary
  · exact goOn_queuedFirst _ hboundary

theorem handedOver_queue {c : StepContext} {s : State}
    (hroom : s.policy.recordPolicy = .drop → s.records.queue.length < 32) :
    (handedOver c s).records.queue = s.records.queue ++ [shotRecord .done c s] := by
  cases hpolicy : s.policy.recordPolicy with
  | hold => simp [handedOver, recorded, hpolicy]
  | drop => simp [handedOver, recorded, hpolicy, hroom hpolicy]

/-- Settles O38: the three ways of an emission, and the records of an exposed and of an unexposed step. -/
theorem emissionStoresOrLoses : Obligations.EmissionStoresOrLoses := by
  refine fun s o c => ⟨fun hpolicy => ?_, fun hpolicy hroom => ?_, fun hpolicy hfull => ?_,
    fun start g hs hstate hc hstart hg hgap hroom => ?_, fun hstart => ?_⟩
  · rw [emit_eq, recorded, if_pos hpolicy]
  · rw [emit_eq, recorded, if_neg (by simp [hpolicy]), if_pos hroom]
  · rw [emit_eq, recorded, if_neg (by simp [hpolicy]), if_neg (Nat.not_lt.mpr hfull)]
  · obtain ⟨more, hmore⟩ : queuedFirst (s.records.queue ++ [shotRecord .done c s]) (completeStep c s) :=
      completeStep_queuedFirst ((handedOver_queue hroom).symm ▸ List.prefix_rfl)
    refine ⟨completeStep c s, more, exec_gapEnd hs hstate hc hg hgap, ?_⟩
    rw [← hmore, List.append_assoc]
    simp [shotRecord, hstart]
  · obtain ⟨houtcome, hsequence, hpass, hstep, htag, hposition, hrepetition, hsource, hmanual, hshort, hfault, -, hrest⟩ :=
      shotRecord_isRecordOf o c s
    obtain ⟨hexposed, htime, hlit, hcut, hlate, hsync, hlateness, hskipped⟩ := hrest hstart
    exact ⟨_, rfl, houtcome, hexposed, hlit, hcut, hlateness, hlate, hsync, htime, hshort, hfault, hmanual, hsource,
      hsequence, hpass, hstep, htag, hposition, hrepetition, hskipped⟩

end Sys2Proof.Proofs
end

section
/-! The due instant and the credit check: the exposure start (O16), a short credit (O17), and the millisecond event (O26). -/
namespace Sys2Proof.Proofs
open Sys2Proof.Machine

/-! ### The due instant -/

theorem any_toList_iff {n : Nat} (v : Vector SyncOutput n) (p : SyncOutput → Bool) :
    v.toList.any p = true ↔ ∃ i : Fin n, p v[i] = true := by
  rw [List.any_eq_true]
  constructor
  · rintro ⟨o, ho, h⟩
    obtain ⟨k, hk, rfl⟩ := List.getElem_of_mem ho
    exact ⟨⟨k, by simpa using hk⟩, by simpa using h⟩
  · rintro ⟨i, h⟩
    exact ⟨v[i], by simp, h⟩

theorem manualPulses_iff (s : State) : manualPulses s = true ↔ ∃ i : Fin 4, (s.syncs[i]).pulse.isManual = true :=
  any_toList_iff s.syncs _

/-- With the due instant reached and no manual pulse ACTIVE the step is checked (R36). -/
theorem tryExposure_checks {s : State} {c : StepContext} (hstate : s.seq.state = .delaying) (hc : s.seq.context = some c)
    (hreached : c.dueReached = true) (hmanual : manualPulses s = false) : tryExposure s = afterCheck c s := by
  simp only [tryExposure, hc]
  exact if_pos ⟨hstate, hreached, hmanual⟩

/-- A manual pulse keeps the step waiting (R36). -/
theorem tryExposure_waits {s : State} (hmanual : manualPulses s = true) : tryExposure s = s := by
  rcases tryExposure_cases s with h | ⟨c, _, _, _, hnot, _⟩
  · exact h
  · simp [hmanual] at hnot

/-- A step whose due instant has not been reached is not checked. -/
theorem tryExposure_early {s : State} (h : s.seq.state = .delaying → ∀ c ∈ s.seq.context, c.dueReached = false) :
    tryExposure s = s := by
  rcases tryExposure_cases s with heq | ⟨c, hc, hstate, hreached, _, _⟩
  · exact heq
  · simp [h hstate c hc] at hreached

theorem exec_dueInstant {s : State} {c : StepContext} (hs : s.inReset = false) (hstate : s.seq.state = .delaying)
    (hc : s.seq.context = some c) (hdue : c.record.delay.toNat ≤ (s.timebase.tsc - c.reference).toNat) :
    exec .dueInstant s = .next (tryExposure (setContext { c with dueReached := true } s)) := by
  refine congrArg Host.Outcome.next ((outOfReset_released hs).trans ?_)
  simp only [reachDue, hc]
  exact if_pos ⟨hstate, (dueHasCome_iff s c).mpr hdue⟩

/-- The due instant with no manual pulse in its way is the credit check (R36). -/
theorem exec_dueInstant_checks {s : State} {c : StepContext} (hs : s.inReset = false) (hstate : s.seq.state = .delaying)
    (hc : s.seq.context = some c) (hdue : c.record.delay.toNat ≤ (s.timebase.tsc - c.reference).toNat)
    (hmanual : manualPulses s = false) :
    exec .dueInstant s = .next (afterCheck { c with dueReached := true } (setContext { c with dueReached := true } s)) :=
  (exec_dueInstant hs hstate hc hdue).trans (congrArg _
    (tryExposure_checks (s := setContext { c with dueReached := true } s) hstate rfl rfl hmanual))

/-- Settles O16: a manual pulse delays the check, and the check starts the exposure. -/
theorem dueInstantStartsExposure : Obligations.DueInstantStartsExposure := by
  refine ⟨fun s c i finish hs hstate hc hdue hpulse => ?_, fun s c hs hstate hc hwf hdue hmanual hpulses hguard => ?_⟩
  · have hmanual : manualPulses (setContext { c with dueReached := true } s) = true :=
      (manualPulses_iff _).mpr ⟨i, by rw [setContext_syncs, hpulse]; rfl⟩
    rw [exec_dueInstant hs hstate hc hdue, tryExposure_waits hmanual]
    rfl
  · obtain ⟨d, hd⟩ := afterCheck_exposureStarts (setContext { c with dueReached := true } s)
      { c with dueReached := true } hwf hpulses hguard
    exact ⟨_, d, exec_dueInstant_checks hs hstate hc hdue hmanual, hd⟩

/-! ### A short entry -/

/-- An entry that the check neither skips nor finds satisfied is short, and the check finds it (R88). -/
theorem findsClass_short {s : State} {c : StepContext} {e : ChannelEntry} (he : e ∈ c.record.channels)
    (hskip : ¬skippedEntry s c e) (hsat : ¬satisfiedEntry s c e) : findsClass s c .short = true :=
  List.any_eq_true.mpr ⟨e, he, decide_eq_true ((classify_short s c e).mpr ⟨hskip, hsat⟩)⟩

theorem creditCheck_hold {s : State} {c : StepContext} (hshort : findsClass s c .short = true)
    (hguard : s.policy.guardPolicy = .hold) :
    creditCheck s c = .hold (classMask s c .skipped ||| classMask s c .unsatisfiable) := by
  simp only [creditCheck, hshort, if_true, hguard]

theorem creditCheck_abort {s : State} {c : StepContext} (hshort : findsClass s c .short = true)
    (hguard : s.policy.guardPolicy = .abort) : creditCheck s c = .abort := by
  simp only [creditCheck, hshort, if_true, hguard]

theorem countUp_creditShort (s : State) : countUp creditShortCounter 1 s = { s with counters := { s.counters with
    value := s.counters.value.set 8 (word (min 65535 ((s.counters.value[8]).toNat + 1))) } } := rfl

/-- The state with CREDIT_SHORT raised for a step (R90). -/
def shortageRaised (c : StepContext) (s : State) : State := { s with
  seq := { s.seq with context := some { c with creditShort := true } }
  counters := { s.counters with
    value := s.counters.value.set 8 (word (min 65535 ((s.counters.value[8]).toNat + 1))) }
  status := { s.status with flags := s.status.flags ||| creditShortFlag } }

theorem raiseShortage_first {s : State} {c : StepContext} (hshort : findsClass s c .short = true)
    (honce : c.creditShort = false) : raiseShortage c s = shortageRaised c s := by
  simp only [raiseShortage, hshort, honce, Bool.true_or, Bool.not_false, Bool.and_self, if_true, countUp_creditShort]
  rfl

theorem raiseShortage_again {s : State} {c : StepContext} (honce : c.creditShort = true) : raiseShortage c s = s := by
  simp [raiseShortage, honce]

theorem checkedContext_short {s : State} {c : StepContext} (hshort : findsClass s c .short = true) :
    checkedContext c s = { c with creditShort := true } := by simp [checkedContext, hshort]

theorem afterCheck_hold {s : State} {c : StepContext} (hshort : findsClass s c .short = true)
    (hguard : s.policy.guardPolicy = .hold) (hstate : s.seq.state ≠ .held) : afterCheck c s = enterHeld .credit
      (setContext { c with
        creditShort := true, skipped := classMask s c .skipped ||| classMask s c .unsatisfiable } (raiseShortage c s)) := by
  simp only [afterCheck, creditCheck_hold hshort hguard, if_neg hstate, checkedContext_short hshort]

/-- A re-check that still finds an entry short leaves the step in its hold (R93). -/
theorem afterCheck_still_held {s : State} {c : StepContext} (hshort : findsClass s c .short = true)
    (hguard : s.policy.guardPolicy = .hold) (hstate : s.seq.state = .held) (honce : c.creditShort = true) :
    afterCheck c s = setContext { c with
      skipped := classMask s c .skipped ||| classMask s c .unsatisfiable } s := by
  have hchecked : checkedContext c s = c := by rw [checkedContext_short hshort, ← honce]
  simp only [afterCheck, creditCheck_hold hshort hguard, if_pos hstate, raiseShortage_again honce, hchecked]

theorem afterCheck_abort {s : State} {c : StepContext} (hshort : findsClass s c .short = true)
    (hguard : s.policy.guardPolicy = .abort) : afterCheck c s = stopSequencer .creditAbort (raiseShortage c s) := by
  simp only [afterCheck, creditCheck_abort hshort hguard]

/-- The record of a step that was not exposed does not tell its cut mask and its sync cut (R116). -/
theorem isRecordOf_unexposed {r : ShotRecord} {o : ShotOutcome} {c : StepContext} {s : State} {m : ChannelMask} {b : Bool}
    (hstart : c.exposureStart = none) (h : isRecordOf r o { c with cut := m, syncCut := b } s) : isRecordOf r o c s := by
  obtain ⟨houtcome, hsequence, hpass, hstep, htag, hposition, hrepetition, hsource, hmanual, hshort, hfault, -, hrest⟩ := h
  exact ⟨houtcome, hsequence, hpass, hstep, htag, hposition, hrepetition, hsource, hmanual, hshort, hfault,
    fun start h => absurd (hstart.symm.trans h) (by simp), hrest⟩

/-- With room for it, by the record policy, a record is stored and no counter moves. -/
theorem recorded_stored {r : ShotRecord} {s : State}
    (hroom : s.policy.recordPolicy = .hold ∨ s.records.queue.length < 32) :
    (recorded r s).records.queue = s.records.queue ++ [r] ∧ (recorded r s).counters = s.counters := by
  cases hpolicy : s.policy.recordPolicy with
  | hold => simp [recorded, hpolicy]
  | drop =>
    have hlength : s.records.queue.length < 32 := hroom.resolve_left (by simp [hpolicy])
    simp [recorded, hpolicy, hlength]

/-- Settles O17: the check finds the entry short; the guard policy holds or aborts. -/
theorem shortCreditHoldsOrAborts : Obligations.ShortCreditHoldsOrAborts := by
  intro s c e hs hstate hc hbegun hstart honce hskipped hdue hmanual he hlocked henabled hceiling hcredit
  have hshort : findsClass (setContext { c with dueReached := true } s) { c with dueReached := true } .short = true := by
    refine findsClass_short he ?_ fun ⟨_, _, _, _, hle⟩ => ?_
    · rintro (h | h | h | h)
      · simp [hskipped, inMask] at h
      · exact Bool.false_ne_true (hlocked.symm.trans h)
      · exact Bool.false_ne_true (h.symm.trans henabled)
      · exact absurd hceiling (Nat.not_le.mpr h)
    · exact absurd hcredit (Nat.not_lt.mpr hle)
  rw [exec_dueInstant_checks hs hstate hc hdue hmanual]
  refine ⟨fun hguard => ⟨_, rfl, ?_⟩, fun hguard => ?_⟩
  · rw [afterCheck_hold hshort hguard (by simp [hstate]), raiseShortage_first hshort honce]
    exact ⟨_, classMask_skips (setContext { c with dueReached := true } s) { c with dueReached := true }, rfl⟩
  · rw [afterCheck_abort hshort hguard, raiseShortage_first hshort honce]
    obtain ⟨u, haccounts, hstops⟩ := stopSequencer_stops .creditAbort
      (shortageRaised { c with dueReached := true } (setContext { c with dueReached := true } s))
    rw [if_pos rfl] at haccounts
    refine ⟨_, u, _, rfl, rfl, haccounts, hstops, fun hroom => ?_, fun i => ?_⟩
    · obtain ⟨r, hr, hu⟩ := (haccounts.2 _ rfl).2 hbegun
      obtain ⟨hrecords, hcounters, -⟩ := stopsFor_keeps hstops
      obtain ⟨hqueue, hcount⟩ := recorded_stored (r := r)
        (s := shortageRaised { c with dueReached := true } (setContext { c with dueReached := true } s)) hroom
      rw [hrecords, hcounters, hu]
      exact ⟨congrArg Counters.value hcount, r, hqueue,
        isRecordOf_unexposed (c := { c with dueReached := true, creditShort := true }) hstart hr⟩
    · rw [hstops.1 i, accountsForStep_frame haccounts]
      rfl

/-! ### The millisecond event -/

/-- The state that the millisecond event's refill leaves (R84). -/
def refilledState (s : State) : State := refill { s with timebase := { s.timebase with msDue := false } }

theorem exec_millisecondEvent {s : State} (hs : s.inReset = false) (hdue : s.timebase.msDue = true) :
    exec .millisecondEvent s = .next (countHold (recheck (refilledState s))) :=
  congrArg Host.Outcome.next ((outOfReset_released hs).trans (if_pos hdue))

theorem countHold_eq (s : State) : countHold s = { s with
    seq := if s.seq.state = .held then { s.seq with holdTimer := s.seq.holdTimer.map (· - 1) } else s.seq } := by
  by_cases h : s.seq.state = .held <;> simp [countHold, h]

theorem countHold_of_ne_held {s : State} (h : s.seq.state ≠ .held) : countHold s = s := if_neg h

theorem recheck_of_credit {s : State} {c : StepContext} (hstate : s.seq.state = .held) (hhold : s.seq.hold = .credit)
    (hc : s.seq.context = some c) : recheck s = afterCheck c s := by
  simp only [recheck, hc]
  exact if_pos ⟨hstate, hhold⟩

theorem recheck_of_no_credit {s : State} (h : s.seq.state = .held → s.seq.hold = .recordSpace) : recheck s = s := by
  rcases recheck_cases s with heq | ⟨c, _, hstate, hhold, _⟩
  · exact heq
  · simp [h hstate] at hhold

/-- An exposure start leaves HELD. -/
theorem exposureStarts_not_held {c d : StepContext} {s t : State} (h : exposureStarts c d s t) : t.seq.state ≠ .held := by
  obtain ⟨-, -, -, -, -, -, -, -, -, ht⟩ := h
  rw [ht]
  dsimp only
  split_ifs <;> simp

/-- Settles O26: the refill, then the re-check of a step held for credit, then the hold timer. -/
theorem millisecondRefills : Obligations.MillisecondRefills := by
  refine ⟨fun s hs hdue hhold => ?_, fun s c hs hdue hstate hhold hc hguard => ?_⟩
  · refine ⟨_, exec_millisecondEvent hs hdue, ?_⟩
    rw [recheck_of_no_credit (s := refilledState s) hhold, countHold_eq]
    exact ⟨fun i => refill_channel _ i, rfl, rfl⟩
  · refine ⟨refilledState s, _, exec_millisecondEvent hs hdue, fun i => refill_channel _ i, rfl, ?_, ?_⟩
    · rintro ⟨e, he, hskip, hsat⟩ honce
      have hshort := findsClass_short he hskip hsat
      rw [recheck_of_credit (s := refilledState s) hstate hhold hc,
        afterCheck_still_held (s := refilledState s) hshort hguard hstate honce]
      exact ⟨_, classMask_skips (refilledState s) c, rfl, if_pos hstate⟩
    · intro hall hwf hpulses
      obtain ⟨d, hd⟩ := afterCheck_exposureStarts (refilledState s) c hwf hpulses (.inr hall)
      rw [recheck_of_credit (s := refilledState s) hstate hhold hc, countHold_of_ne_held (exposureStarts_not_held hd)]
      exact ⟨d, hd⟩

end Sys2Proof.Proofs
end

section
/-! Gates and pulses: CH_ENABLE (O28), a gate's width (O30), a fault line (O31), SYNC_CONFIG (O34), and the times of a pulse
(O35). -/
namespace Sys2Proof.Proofs
open Sys2Proof.Machine

/-! ### The gap and the last gate close -/

/-- R39: where the gap starts. -/
theorem startGap_eq {s : State} {c : StepContext} (hc : s.seq.context = some c) : startGap s = { s with
    seq := { s.seq with context := some { c with
      gapStart := if s.seq.state = .settling ∧ c.gapStart = none ∧ stepPulses s = false then some s.timebase.tsc
        else c.gapStart } } } := by
  simp only [startGap, hc]
  split_ifs with h
  · rfl
  · rw [← hc]

theorem startGap_settling {s : State} {c : StepContext} (hc : s.seq.context = some c) (hstate : s.seq.state = .settling) :
    startGap s = { s with seq := { s.seq with context := some { c with
      gapStart := if c.gapStart = none ∧ stepPulses s = false then some s.timebase.tsc else c.gapStart } } } := by
  rw [startGap_eq hc]
  simp only [hstate, true_and]

theorem openGates_eq_zero_iff (s : State) : openGates s = 0 ↔ ∀ i : Fin 8, (s.channels.channel[i]).gate = none := by
  have hbit : ∀ i : Fin 8, inMask (openGates s) i = (s.channels.channel[i]).gate.isSome := fun i => inMask_maskOf _ i
  constructor
  · intro h i
    have hi := hbit i
    rw [h] at hi
    exact Option.isNone_iff_eq_none.mp (by simpa [inMask] using hi.symm)
  · intro h
    refine BitVec.eq_of_getLsbD_eq fun i hi => ?_
    exact (hbit ⟨i, hi⟩).trans (by rw [h]; simp)

/-- The context of a step whose last gate closes now (R38, R39). -/
def lastGateClosed (c : StepContext) (s : State) : StepContext :=
  { c with
    lastGateClose := some s.timebase.tsc
    gapStart := if c.gapStart = none ∧ stepPulses s = false then some s.timebase.tsc else c.gapStart }

/-- R38: the closing of the last gate of an EXPOSING step. -/
theorem afterGateClose_last {s : State} {c : StepContext} (hc : s.seq.context = some c) (hstate : s.seq.state = .exposing)
    (hdark : ∀ i : Fin 8, (s.channels.channel[i]).gate = none) : afterGateClose s = { s with
      seq := { s.seq with state := .settling, context := some (lastGateClosed c s) } } := by
  simp only [afterGateClose, hc]
  rw [if_pos ⟨hstate, (openGates_eq_zero_iff s).mpr hdark⟩, startGap_settling rfl rfl]
  rfl

theorem afterGateClose_goes_on {s : State}
    (h : ¬(s.seq.state = .exposing ∧ ∀ i : Fin 8, (s.channels.channel[i]).gate = none)) : afterGateClose s = s := by
  rcases afterGateClose_cases s with heq | ⟨c, _, hstate, hgates, _⟩
  · exact heq
  · exact absurd ⟨hstate, (openGates_eq_zero_iff s).mp hgates⟩ h

/-! ### CH_ENABLE -/

/-- The marks of a cut, in the context (R82). -/
def cutNoted (m : ChannelMask) (c : StepContext) : StepContext := if c.begun = true then { c with cut := c.cut ||| m } else c

theorem context_same {s : State} {x : Option StepContext} (h : s.seq.context = x) :
    { s with seq := { s.seq with context := x } } = s := by rw [← h]

theorem noteCut_eq (m : ChannelMask) (s : State) :
    noteCut m s = { s with seq := { s.seq with context := s.seq.context.map (cutNoted m) } } := by
  rcases hc : s.seq.context with _ | c
  · rw [Option.map_none, context_same hc]
    simp only [noteCut, hc]
  · rw [Option.map_some, cutNoted]
    simp only [noteCut, hc]
    split_ifs
    · rfl
    · rw [context_same hc]

/-- The enable bits written, and the gates that they leave dark closed (R78), before the step is told. -/
def enablesWritten (w : Word) (s : State) : State :=
  { s with
    channels := { s.channels with channel := Vector.ofFn fun i =>
      { s.channels.channel[i] with
          enabled := bit w i.val
          gate := if bit w i.val then (s.channels.channel[i]).gate else none } }
    seq := { s.seq with context := s.seq.context.map (cutNoted (enableCuts w s)) } }

theorem exec_chEnableWrite {s : State} (hs : s.inReset = false) (w : Word) :
    exec (.chEnableWrite w) s = .next (afterGateClose (enablesWritten w s)) := by
  refine congrArg Host.Outcome.next ((outOfReset_released hs).trans ?_)
  rw [writeChEnable, noteCut_eq]
  rfl

theorem enablesWritten_channel (w : Word) (s : State) (i : Fin 8) :
    (enablesWritten w s).channels.channel[i] = { s.channels.channel[i] with
      enabled := bit w i.val
      gate := if bit w i.val = true then (s.channels.channel[i]).gate else none } := by simp [enablesWritten]

/-- The write leaves every gate closed when it clears the bit of every LIT channel. -/
theorem enablesWritten_dark_iff (w : Word) (s : State) :
    (∀ i : Fin 8, ((enablesWritten w s).channels.channel[i]).gate = none) ↔
      ∀ i : Fin 8, (s.channels.channel[i]).gate.isSome = true → bit w i.val = false := by
  refine forall_congr' fun i => ?_
  rw [enablesWritten_channel]
  cases bit w i.val <;> simp

theorem inMask_enableCuts (w : Word) (s : State) (i : Fin 8) : inMask (enableCuts w s) i = true ↔
    (s.channels.channel[i]).gate.isSome = true ∧ bit w i.val = false := by
  rw [enableCuts, inMask_maskOf, Bool.and_eq_true, Bool.not_eq_true']

/-- Settles O28: the cuts are noted in the begun step, and the last of them ends EXPOSING. -/
theorem chEnableWriteActs : Obligations.ChEnableWriteActs := by
  intro s w hs hsome
  have hcut : ∀ (c : StepContext) (i : Fin 8), inMask (c.cut ||| enableCuts w s) i = true ↔
      inMask c.cut i = true ∨ ((s.channels.channel[i]).gate.isSome = true ∧ bit w i.val = false) := fun c i => by
    rw [inMask_or, Bool.or_eq_true, inMask_enableCuts]
  refine ⟨_, exec_chEnableWrite hs w, fun i => ?_, ?_⟩
  · rw [afterGateClose_channels, enablesWritten_channel]
  by_cases hlast : s.seq.state = .exposing ∧ ∀ i : Fin 8, (s.channels.channel[i]).gate.isSome = true → bit w i.val = false
  · obtain ⟨c, hc⟩ := Option.isSome_iff_exists.mp (hsome hlast.1)
    have hcontext : (enablesWritten w s).seq.context = some (cutNoted (enableCuts w s) c) := congrArg (Option.map _) hc
    rw [if_pos hlast, afterGateClose_last hcontext hlast.1 ((enablesWritten_dark_iff w s).mpr hlast.2)]
    refine ⟨rfl, fun c' hc' hbegun => ?_, fun _ h => absurd hlast.1 h, rfl⟩
    obtain rfl := Option.some.inj (hc.symm.trans hc')
    refine ⟨_, rfl, ?_, ?_⟩
    · simpa only [lastGateClosed, cutNoted, if_pos hbegun] using hcut c
    · simp only [lastGateClosed, cutNoted, if_pos hbegun, hlast.1, reduceCtorEq, if_false, ne_eq, not_false_iff, true_and]
      rfl
  · have hdark : ¬((enablesWritten w s).seq.state = .exposing ∧
        ∀ i : Fin 8, ((enablesWritten w s).channels.channel[i]).gate = none) := by
      rw [enablesWritten_dark_iff]
      exact hlast
    rw [if_neg hlast, afterGateClose_goes_on hdark]
    refine ⟨rfl, fun c hc hbegun => ⟨cutNoted (enableCuts w s) c, congrArg (Option.map _) hc, ?_, ?_⟩, fun hbegun _ => ?_, rfl⟩
    · simpa only [cutNoted, if_pos hbegun] using hcut c
    · have hstate : (enablesWritten w s).seq.state = s.seq.state := rfl
      simp only [cutNoted, if_pos hbegun, hstate, if_true, ne_eq, not_true_eq_false, false_and, if_false]
    · change s.seq.context.map (cutNoted (enableCuts w s)) = s.seq.context
      rcases hc : s.seq.context with _ | c
      · rfl
      · have hnot : c.begun = false := by simpa [stepBegun, hc] using hbegun
        simp [cutNoted, hnot]

/-! ### A gate's width -/

theorem exec_gateWidthEnd {s : State} {n : Fin 8} {g : OpenGate} (hs : s.inReset = false)
    (hgate : (s.channels.channel[n]).gate = some g) (hover : hasCome s.timebase.tsc g.closing = true) :
    exec (.gateWidthEnd n) s = .next (afterGateClose (setChannel n { s.channels.channel[n] with gate := none } s)) :=
  congrArg Host.Outcome.next
    ((outOfReset_released hs).trans (if_pos ((gateWidthOver_iff n s).mpr ⟨g, hgate, hover⟩)))

/-- A channel made dark: whether every gate is closed then depends on the others. -/
theorem setChannel_dark_iff (n : Fin 8) (ch : Channel) (s : State) (hdark : ch.gate = none) :
    (∀ i : Fin 8, ((setChannel n ch s).channels.channel[i]).gate = none) ↔
      ∀ m : Fin 8, m ≠ n → (s.channels.channel[m]).gate = none := by
  constructor
  · intro h m hm
    have hgate := h m
    rwa [setChannel_channel, if_neg hm] at hgate
  · intro h i
    rw [setChannel_channel]
    by_cases hi : i = n
    · rw [if_pos hi, hdark]
    · rw [if_neg hi, h i hi]

/-- Settles O30: the gate closes, and the last one ends EXPOSING. -/
theorem gateWidthEndCloses : Obligations.GateWidthEndCloses := by
  intro s n g c hs hstate hc hgap hgate hover
  rw [exec_gateWidthEnd hs hgate hover]
  refine ⟨fun ⟨m, hm, hopen⟩ => ?_, fun hothers => ?_⟩
  · rw [afterGateClose_goes_on]
    · rfl
    · rintro ⟨-, hdark⟩
      have hgate' := (setChannel_dark_iff n _ s rfl).mp hdark m hm
      rw [hgate'] at hopen
      cases hopen
  · rw [afterGateClose_last (s := setChannel n { s.channels.channel[n] with gate := none } s) hc hstate
      ((setChannel_dark_iff n _ s rfl).mpr hothers)]
    have hgapStart : (if c.gapStart = none ∧ stepPulses s = false then some s.timebase.tsc else c.gapStart) =
        if stepPulses s = true then none else some s.timebase.tsc := by
      cases stepPulses s <;> simp [hgap]
    refine congrArg (fun gap => Host.Outcome.next { s with
      channels := { s.channels with
        channel := s.channels.channel.set n { s.channels.channel[n] with gate := none } }
      seq := { s.seq with
        state := .settling
        context := some { c with lastGateClose := some s.timebase.tsc, gapStart := gap } } }) hgapStart

end Sys2Proof.Proofs
end

section
/-! Fault lines (O31), SYNC_CONFIG (O34), and the times of a pulse (O35). -/
namespace Sys2Proof.Proofs
open Sys2Proof.Machine

/-! ### A fault line -/

theorem channelMask_ext {m k : ChannelMask} (h : ∀ i : Fin 8, inMask m i = inMask k i) : m = k :=
  BitVec.eq_of_getLsbD_eq fun i hi => h ⟨i, hi⟩

/-- The marks of a lock in the context of a step (R97). -/
def faultNoted (n : Fin 8) (s : State) (c : StepContext) : StepContext :=
  if c.begun = true then
    { c with
      cut := if (s.channels.channel[n]).gate.isSome = true then c.cut ||| oneChannel n else c.cut
      faultSeen := true }
  else c

/-- The state that an asserted line of an unlocked channel leaves, before the fault policy is looked at (R96, R97). -/
def faultedState (n : Fin 8) (s : State) : State := { s with
  channels := { s.channels with
    channel := s.channels.channel.set n { s.channels.channel[n] with
      faultLine := true
      locked := true
      gate := none } }
  status := { s.status with flags := s.status.flags ||| channelFaultFlag }
  seq := { s.seq with context := s.seq.context.map (faultNoted n s) } }

theorem noteFault_eq (m : ChannelMask) (s : State) : noteFault m s = { s with
    seq := { s.seq with context := s.seq.context.map fun c =>
      if c.begun = true then { c with cut := c.cut ||| m, faultSeen := true } else c } } := by
  rcases hc : s.seq.context with _ | c
  · rw [Option.map_none, context_same hc]
    simp only [noteFault, hc]
  · rw [Option.map_some]
    simp only [noteFault, hc]
    split_ifs
    · rfl
    · rw [context_same hc]

theorem setFaultLine_same (n : Fin 8) (s : State) :
    (setFaultLine n true s).channels.channel[n] = { s.channels.channel[n] with faultLine := true } := by
  rw [setFaultLine_channel, if_pos rfl]

/-- A mask that holds a channel when its gate is open, joined to the cut mask. -/
theorem or_oneChannel (m : ChannelMask) (n : Fin 8) (b : Bool) :
    (m ||| if b then oneChannel n else 0) = if b = true then m ||| oneChannel n else m := by cases b <;> simp

theorem lockedMark_setFaultLine (n : Fin 8) (s : State) : lockedMark n (setFaultLine n true s) = faultedState n s := by
  have hchannel : ((setFaultLine n true s).channels.channel.set n
      { (setFaultLine n true s).channels.channel[n] with locked := true, gate := none }) =
      s.channels.channel.set n { s.channels.channel[n] with faultLine := true, locked := true, gate := none } := by
    rw [setFaultLine_same]
    exact Vector.set_set ..
  have hgate : ((setFaultLine n true s).channels.channel[n]).gate = (s.channels.channel[n]).gate := by
    rw [setFaultLine_same]
  rw [lockedMark, noteFault_eq, setChannel, hchannel]
  simp only [or_oneChannel, hgate]
  rfl

theorem faultedState_dark_iff (n : Fin 8) (s : State) :
    (∀ i : Fin 8, ((faultedState n s).channels.channel[i]).gate = none) ↔
      ∀ m : Fin 8, m ≠ n → (s.channels.channel[m]).gate = none :=
  setChannel_dark_iff n { s.channels.channel[n] with faultLine := true, locked := true, gate := none } s rfl

theorem assertFault_unlocked {n : Fin 8} {s : State} (hs : s.inReset = false)
    (hlocked : (s.channels.channel[n]).locked = false) :
    assertFault n s = lockChannel n (setFaultLine n true s) := by
  simp only [assertFault, hs, hlocked, Bool.or_self, Bool.false_eq_true, if_false]

/-- With no stop by the fault policy the run goes on past the lock (R98). -/
theorem assertFault_continues {n : Fin 8} {s : State} (hs : s.inReset = false)
    (hlocked : (s.channels.channel[n]).locked = false) (h : s.policy.faultPolicy = .continue ∨ s.seq.state = .stopped) :
    assertFault n s = afterGateClose (faultedState n s) := by
  have hnot : ¬(s.policy.faultPolicy = .stop ∧ s.seq.state ≠ .stopped) := by
    rcases h with h | h <;> simp [h]
  rw [assertFault_unlocked hs hlocked, ← lockedMark_setFaultLine]
  exact if_neg hnot

theorem assertFault_stops {n : Fin 8} {s : State} (hs : s.inReset = false)
    (hlocked : (s.channels.channel[n]).locked = false) (hpolicy : s.policy.faultPolicy = .stop)
    (hstate : s.seq.state ≠ .stopped) : assertFault n s = stopSequencer .channelFault (faultedState n s) := by
  rw [assertFault_unlocked hs hlocked, ← lockedMark_setFaultLine]
  exact if_pos ⟨hpolicy, hstate⟩

theorem inMask_oneChannel (n i : Fin 8) : inMask (oneChannel n) i = decide (i = n) := inMask_maskOf _ i

theorem inMask_cutOne (m : ChannelMask) (n i : Fin 8) (b : Bool) :
    inMask (if b = true then m ||| oneChannel n else m) i = (inMask m i || (b && decide (i = n))) := by
  cases b <;> simp [inMask_or, inMask_oneChannel]

/-- The cut mask of a locked step joined to the gates still open: the cuts it had and the gates that were open. -/
theorem faultNoted_cut {n : Fin 8} {s : State} {c : StepContext} (hbegun : c.begun = true) :
    (faultNoted n s c).cut ||| openGates (faultedState n s) = c.cut ||| openGates s := by
  refine channelMask_ext fun i => ?_
  have hopen : inMask (openGates (faultedState n s)) i =
      if i = n then false else (s.channels.channel[i]).gate.isSome := by
    rw [openGates, inMask_maskOf]
    have hchannel := setChannel_channel n i
      { s.channels.channel[n] with faultLine := true, locked := true, gate := none } s
    refine (congrArg (fun ch : Channel => ch.gate.isSome) hchannel).trans ?_
    split_ifs <;> rfl
  rw [inMask_or, inMask_or, hopen, faultNoted, if_pos hbegun, openGates, inMask_maskOf, inMask_cutOne]
  by_cases hi : i = n
  · subst hi
    simp
  · simp [hi]

/-- Settles O31: the lock, and what the fault policy makes of it. -/
theorem faultLocksChannel : Obligations.FaultLocksChannel := by
  refine ⟨fun s n hs hlocked hstate hpolicy hbegun => ?_, fun s n c hs hlocked hpolicy hc hbegun => ?_,
    fun s n hs hlocked hstate hpolicy => ?_, fun s n hs hlocked => ?_, fun s n => rfl⟩
  · refine congrArg Host.Outcome.next ((assertFault_continues hs hlocked hpolicy).trans ?_)
    rw [afterGateClose_goes_on (s := faultedState n s) fun h => hstate h.1]
    have hcontext : s.seq.context.map (faultNoted n s) = s.seq.context := by
      rcases hc : s.seq.context with _ | c
      · rfl
      · have hnot : c.begun = false := by simpa [stepBegun, hc] using hbegun
        simp [faultNoted, hnot]
    rw [faultedState, hcontext]
  · have hcontext : (faultedState n s).seq.context = some (faultNoted n s c) := congrArg (Option.map _) hc
    have hnoted : faultNoted n s c = { c with
        cut := if (s.channels.channel[n]).gate.isSome = true then c.cut ||| oneChannel n else c.cut
        faultSeen := true } := if_pos hbegun
    refine ⟨_, faultNoted n s c, congrArg Host.Outcome.next (assertFault_continues hs hlocked (.inl hpolicy)), hnoted, ?_⟩
    by_cases hlast : s.seq.state = .exposing ∧ ∀ m : Fin 8, m ≠ n → (s.channels.channel[m]).gate = none
    · rw [if_pos hlast, afterGateClose_last hcontext hlast.1 ((faultedState_dark_iff n s).mpr hlast.2)]
      refine ⟨?_, rfl⟩
      rw [hnoted]
      rfl
    · rw [if_neg hlast, afterGateClose_goes_on (s := faultedState n s) fun h => hlast ⟨h.1, (faultedState_dark_iff n s).mp h.2⟩]
      refine ⟨?_, rfl⟩
      rw [faultedState, hc, Option.map_some]
  · obtain ⟨u, haccounts, hstops⟩ := stopSequencer_stops .channelFault (faultedState n s)
    refine ⟨faultedState n s, u, _, congrArg Host.Outcome.next (assertFault_stops hs hlocked hpolicy hstate), rfl,
      haccounts, hstops, fun c hc hbegun hstart hroom => ?_⟩
    have hcontext : (faultedState n s).seq.context = some (faultNoted n s c) := congrArg (Option.map _) hc
    have hnoted : faultNoted n s c = { c with
        cut := if (s.channels.channel[n]).gate.isSome = true then c.cut ||| oneChannel n else c.cut
        faultSeen := true } := if_pos hbegun
    obtain ⟨start, hstart⟩ := Option.isSome_iff_exists.mp hstart
    obtain ⟨r, ⟨-, -, -, -, -, -, -, -, -, -, hfault, hexposed, -⟩, hu⟩ :=
      (haccounts.2 _ hcontext).2 (by rw [hnoted]; exact hbegun)
    obtain ⟨-, -, -, -, hcut, -⟩ := hexposed start (by rw [hnoted]; exact hstart)
    refine ⟨r, ?_, ?_, hcut.trans (faultNoted_cut hbegun)⟩
    · rw [(stopsFor_keeps hstops).1, hu]
      exact (recorded_stored (s := faultedState n s) hroom).1
    · rw [hfault, hnoted]
  · exact congrArg Host.Outcome.next (if_pos ((Bool.or_eq_true _ _).mpr (.inr hlocked)))

/-! ### SYNC_CONFIG -/

theorem applySyncConfig_sync (w : Word) (s : State) (i : Fin 4) : (applySyncConfig w s).syncs[i] =
    { polarity := polarityBit w i, enabled := bit w (4 + i.val)
      pulse := if polarityCuts w s i then .idle else (s.syncs[i]).pulse } := by simp [applySyncConfig]

theorem polarityBit_iff (w : Word) (i : Fin 4) : polarityBit w i = .activeLow ↔ bit w i.val = true := by
  unfold polarityBit
  split_ifs with h <;> simp [h]

theorem polarityCuts_iff (w : Word) (s : State) (i : Fin 4) : polarityCuts w s i = true ↔
    (s.syncs[i]).pulse.isActive = true ∧ polarityBit w i ≠ (s.syncs[i]).polarity := by
  rw [polarityCuts, Bool.and_eq_true, decide_eq_true_eq]

/-- R104: the settings of the outputs after a write, and the pulses that it leaves. -/
theorem applySyncConfig_outputs (w : Word) (s : State) (i : Fin 4) :
    ((applySyncConfig w s).syncs[i]).enabled = bit w (4 + i.val) ∧
    (((applySyncConfig w s).syncs[i]).polarity = .activeLow ↔ bit w i.val = true) ∧
    ((applySyncConfig w s).syncs[i]).pulse =
      (if (s.syncs[i]).pulse.isActive = true ∧ ((applySyncConfig w s).syncs[i]).polarity ≠ (s.syncs[i]).polarity
        then .idle else (s.syncs[i]).pulse) := by
  rw [applySyncConfig_sync]
  exact ⟨rfl, polarityBit_iff w i, if_congr (polarityCuts_iff w s i) rfl rfl⟩

/-- A write cuts a step pulse when it changes the polarity of an output with one ACTIVE (R111). -/
theorem cutsStepPulse_iff (w : Word) (s : State) : cutsStepPulse w s = true ↔ ∃ (i : Fin 4) (finish : Time),
    (s.syncs[i]).pulse = .active .stepPulse finish ∧
      ((applySyncConfig w s).syncs[i]).polarity ≠ (s.syncs[i]).polarity := by
  rw [cutsStepPulse, List.any_eq_true]
  simp only [Bool.and_eq_true, polarityCuts_iff, applySyncConfig_sync]
  constructor
  · rintro ⟨i, -, ⟨hactive, hpolarity⟩, hstep⟩
    cases hpulse : (s.syncs[i]).pulse with
    | idle => rw [hpulse] at hactive; cases hactive
    | scheduled start finish => rw [hpulse] at hactive; cases hactive
    | active kind finish =>
      cases kind with
      | stepPulse => exact ⟨i, finish, hpulse, hpolarity⟩
      | manual => rw [hpulse] at hstep; cases hstep
  · rintro ⟨i, finish, hpulse, hpolarity⟩
    exact ⟨i, mem_allFour i, ⟨by rw [hpulse]; rfl, hpolarity⟩, by rw [hpulse]; rfl⟩

/-- The context of a step after a write to SYNC_CONFIG (R39, R111). -/
def syncNoted (w : Word) (s : State) (c : StepContext) : StepContext :=
  { c with
    syncCut := c.syncCut || cutsStepPulse w s
    lastSyncEnd := if cutsStepPulse w s = true then some s.timebase.tsc else c.lastSyncEnd
    gapStart := if s.seq.state = .settling ∧ c.gapStart = none ∧ stepPulses (applySyncConfig w s) = false then
        some s.timebase.tsc else c.gapStart }

/-- The state that a write to SYNC_CONFIG leaves, before a step that waits for a manual pulse is looked at. -/
def syncsWritten (w : Word) (s : State) : State :=
  { applySyncConfig w s with seq := { s.seq with context := s.seq.context.map (syncNoted w s) } }

theorem writeSyncConfig_eq (w : Word) (s : State) : writeSyncConfig w s = tryExposure (syncsWritten w s) := by
  refine congrArg tryExposure ?_
  rw [syncsWritten]
  rcases hc : s.seq.context with _ | c
  · have hmap : { applySyncConfig w s with seq := { s.seq with context := none } } = applySyncConfig w s :=
      context_same (s := applySyncConfig w s) hc
    have hnone : (applySyncConfig w s).seq.context = none := hc
    rw [Option.map_none, hmap]
    simp only [noteSyncEnd, noteSyncCut, startGap, hnone, ite_self]
  · rw [Option.map_some, syncNoted]
    cases hcut : cutsStepPulse w s
    · rw [if_neg Bool.false_ne_true, if_neg Bool.false_ne_true, startGap_eq (s := applySyncConfig w s) hc, Bool.or_false]
      rfl
    · have hmid : noteSyncEnd (noteSyncCut (applySyncConfig w s)) =
          setContext { c with syncCut := true, lastSyncEnd := some s.timebase.tsc } (applySyncConfig w s) := by
        have hsome : (applySyncConfig w s).seq.context = some c := hc
        simp only [noteSyncEnd, noteSyncCut, hsome]
        rfl
      rw [if_pos rfl, if_pos rfl, hmid, startGap_eq rfl, Bool.or_true]
      rfl

theorem exec_syncConfigWrite {s : State} (hs : s.inReset = false) (w : Word) :
    exec (.syncConfigWrite w) s = .next (tryExposure (syncsWritten w s)) :=
  congrArg Host.Outcome.next ((outOfReset_released hs).trans (writeSyncConfig_eq w s))

/-- A step whose due instant has been reached is checked again when a manual pulse has ended (R36): the effect is that of
DUE_INSTANT. -/
theorem exec_dueInstant_of_reached {s : State} {c : StepContext} (hs : s.inReset = false)
    (hstate : s.seq.state = .delaying) (hc : s.seq.context = some c) (hreached : c.dueReached = true)
    (hdue : c.record.delay.toNat ≤ (s.timebase.tsc - c.reference).toNat) :
    exec .dueInstant s = .next (tryExposure s) := by
  have hsame : setContext { c with dueReached := true } s = s := by
    rw [← hreached]
    exact context_same hc
  rw [exec_dueInstant hs hstate hc hdue, hsame]

theorem stepPulses_eq_false_iff (s : State) : stepPulses s = false ↔ ∀ i : Fin 4, (s.syncs[i]).pulse.isStep = false := by
  rw [← Bool.not_eq_true, stepPulses_iff, not_exists]
  exact forall_congr' fun i => iff_of_eq (Bool.not_eq_true _)

/-- Settles O34: the settings and the cuts, their marks in the step, and the step that waits for a manual pulse. -/
theorem syncConfigWriteActs : Obligations.SyncConfigWriteActs := by
  refine ⟨fun s w hs hearly => ?_, fun s w c hs hstate hc hreached hdue hpulses => ?_⟩
  · have hearly' : (syncsWritten w s).seq.state = .delaying →
        ∀ c ∈ (syncsWritten w s).seq.context, c.dueReached = false := fun hstate d hd => by
      obtain ⟨c, hc, rfl⟩ := Option.mem_map.mp hd
      exact hearly hstate c hc
    rw [exec_syncConfigWrite hs, tryExposure_early hearly']
    refine ⟨_, rfl, applySyncConfig_outputs w s, fun c hc => ⟨syncNoted w s c, congrArg (Option.map _) hc, ?_⟩, rfl⟩
    have hgap : stepPulses (applySyncConfig w s) = false ↔
        ∀ i : Fin 4, ((syncsWritten w s).syncs[i]).pulse.isStep = false := stepPulses_eq_false_iff _
    have hcut : cutsStepPulse w s = true ↔ ∃ (i : Fin 4) (finish : Time), (s.syncs[i]).pulse = .active .stepPulse finish ∧
        ((syncsWritten w s).syncs[i]).polarity ≠ (s.syncs[i]).polarity := cutsStepPulse_iff w s
    rw [← hcut, ← hgap]
    refine ⟨Bool.or_eq_true _ _ ▸ Iff.rfl, fun h => if_pos h, fun h => if_pos h, fun h => if_neg h, fun h => if_neg fun hcuts => ?_,
      rfl⟩
    obtain ⟨i, finish, hpulse, hpolarity⟩ := hcut.mp hcuts
    exact hpolarity (h i finish hpulse)
  · have hcut : cutsStepPulse w s = false := by
      rw [← Bool.not_eq_true, cutsStepPulse_iff]
      rintro ⟨i, finish, hpulse, -⟩
      have hstep := (stepPulses_eq_false_iff s).mp hpulses i
      rw [hpulse] at hstep
      cases hstep
    have hnoted : syncsWritten w s = applySyncConfig w s := by
      have hsame : syncNoted w s c = c := by simp [syncNoted, hcut, hstate]
      rw [syncsWritten, hc, Option.map_some, hsame]
      exact context_same (s := applySyncConfig w s) hc
    refine ⟨applySyncConfig w s, applySyncConfig_outputs w s, rfl, ?_⟩
    rw [exec_syncConfigWrite hs, hnoted]
    exact (exec_dueInstant_of_reached (s := applySyncConfig w s) hs hstate hc hreached hdue).symm

/-! ### The times of a pulse -/

theorem setOutput_sync (i j : Fin 4) (o : SyncOutput) (s : State) :
    (setOutput i o s).syncs[j] = if j = i then o else s.syncs[j] := by
  by_cases h : j = i
  · subst h
    simp
  · have hne : i.val ≠ j.val := fun heq => h (Fin.ext heq.symm)
    simp [h, hne]

/-- An output made IDLE: whether a step pulse is left then depends on the others. -/
theorem stepPulses_setOutput_idle (i : Fin 4) (o : SyncOutput) (s : State) (hidle : o.pulse = .idle) :
    stepPulses (setOutput i o s) = false ↔ ∀ j : Fin 4, j ≠ i → (s.syncs[j]).pulse.isStep = false := by
  rw [stepPulses_eq_false_iff]
  constructor
  · intro h j hj
    have hj' := h j
    rwa [setOutput_sync, if_neg hj] at hj'
  · intro h j
    rw [setOutput_sync]
    by_cases hj : j = i
    · rw [if_pos hj, hidle]
      rfl
    · rw [if_neg hj, h j hj]

/-- The end of an ACTIVE output when its time has come (R106). -/
theorem exec_syncEnd {s : State} {i : Fin 4} {kind : PulseKind} {finish : Time} (hs : s.inReset = false)
    (hpulse : (s.syncs[i]).pulse = .active kind finish) (hcome : hasCome s.timebase.tsc finish = true) :
    exec (.syncEnd i) s = .next (match kind with
      | .stepPulse => startGap (noteSyncEnd (setOutput i { s.syncs[i] with pulse := .idle } s))
      | .manual => tryExposure (setOutput i { s.syncs[i] with pulse := .idle } s)) := by
  refine congrArg Host.Outcome.next ((outOfReset_released hs).trans ?_)
  simp only [endPulse, hpulse, hcome, if_true]
  cases kind <;> rfl

/-- Settles O35: the start, and the end by the kind of pulse. -/
theorem syncPulseStartsAndEnds : Obligations.SyncPulseStartsAndEnds := by
  refine ⟨fun s i start finish hs hpulse hcome => ?_, fun s i finish c hs hpulse hcome hc hgap => ?_,
    fun s i finish hs hpulse hcome hearly => ?_, fun s i finish c hs hpulse hcome hstate hc hreached hdue => ?_⟩
  · refine congrArg Host.Outcome.next ((outOfReset_released hs).trans ?_)
    simp only [startPulse, hpulse, hcome, if_true]
    rfl
  · have hnoted : noteSyncEnd (setOutput i { s.syncs[i] with pulse := .idle } s) =
        setContext { c with lastSyncEnd := some s.timebase.tsc } (setOutput i { s.syncs[i] with pulse := .idle } s) := by
      have hsome : (setOutput i { s.syncs[i] with pulse := .idle } s).seq.context = some c := hc
      simp only [noteSyncEnd, hsome]
      rfl
    have hgapStart : (if s.seq.state = .settling ∧ c.gapStart = none ∧
          stepPulses (setOutput i { s.syncs[i] with pulse := .idle } s) = false then some s.timebase.tsc else c.gapStart) =
        if s.seq.state = .settling ∧ ∀ j : Fin 4, j ≠ i → (s.syncs[j]).pulse.isStep = false then some s.timebase.tsc
        else none := by
      rw [hgap]
      exact if_congr (by simp only [true_and, stepPulses_setOutput_idle i { s.syncs[i] with pulse := .idle } s rfl]) rfl rfl
    rw [exec_syncEnd hs hpulse hcome]
    dsimp only
    rw [hnoted, startGap_eq rfl, ← hgapStart]
    rfl
  · rw [exec_syncEnd hs hpulse hcome]
    exact congrArg _ (tryExposure_early (s := setOutput i { s.syncs[i] with pulse := .idle } s) hearly)
  · rw [exec_syncEnd hs hpulse hcome]
    exact (exec_dueInstant_of_reached (s := setOutput i { s.syncs[i] with pulse := .idle } s) hs hstate hc hreached
      hdue).symm

end Sys2Proof.Proofs
end

section
/-! The Table Port's sessions: OPEN_LOAD and OPEN_READ (O39), CLOSE_PORT (O40), and the words of an ORDER load session
(O43). -/
namespace Sys2Proof.Proofs
open Sys2Proof.Machine

/-! ### CLOSE_PORT -/

theorem orderLoad_iff (s : State) : orderLoad s = true ↔ s.port.kind = .load ∧ s.port.table = .order := by simp [orderLoad]

/-- A load session of step records with a record in assembly (R132). -/
def partialRecord (s : State) : Prop := s.port.kind = .load ∧ s.port.table = .steps ∧ s.port.wordPos ≠ 0

theorem closeSession_order {s : State} (h : s.port.kind = .load ∧ s.port.table = .order) :
    closeSession s = endSession (setStaging { stagingBank s with order := closedOrder s } s) :=
  congrArg endSession (if_pos ((orderLoad_iff s).mpr h))

theorem closeSession_partial {s : State} (h : partialRecord s) :
    closeSession s = endSession (portError .partialRecord (word s.port.next) s) := by
  obtain ⟨hkind, htable, hword⟩ := h
  have horder : ¬orderLoad s = true := by simp [orderLoad_iff, htable]
  exact congrArg endSession ((if_neg horder).trans (if_pos (by simp [hkind, hword])))

theorem closeSession_plain {s : State} (horder : ¬(s.port.kind = .load ∧ s.port.table = .order))
    (hpartial : ¬partialRecord s) : closeSession s = endSession s := by
  refine congrArg endSession ((if_neg fun h => horder ((orderLoad_iff s).mp h)).trans (if_neg fun h => hpartial ?_))
  simp only [Bool.and_eq_true, decide_eq_true_eq, bne_iff_ne] at h
  refine ⟨h.1, ?_, h.2⟩
  cases htable : s.port.table with
  | steps => rfl
  | order => exact absurd ⟨h.1, htable⟩ horder

theorem setStaging_tables_frame (b : Bank) (s : State) : (setStaging b s).tables.active = s.tables.active ∧
    (setStaging b s).tables.commitPending = s.tables.commitPending ∧
    (setStaging b s).tables.incomplete = s.tables.incomplete := by
  refine ⟨setBank_active _ _ _, setBank_commitPending _ _ _, ?_⟩
  simp only [setStaging]
  cases s.tables.active.other <;> rfl

theorem exec_closePort {s : State} (hs : commandable s) (hopen : s.port.kind ≠ .none) :
    exec .closePort s = .next (closeSession (verdict 0x1A .accepted 0 s)) :=
  accepted_next hs rfl (by simp [firstRefusal, hopen])

/-- Settles O40: the close by its kind of session. -/
theorem closePortBySession : Obligations.ClosePortBySession := by
  refine fun s hs => ⟨fun hnone => refused_next hs rfl (by simp [firstRefusal, hnone]), fun hopen => ?_⟩
  refine ⟨_, exec_closePort hs hopen, ?_⟩
  by_cases horder : s.port.kind = .load ∧ s.port.table = .order
  · have hpartial : ¬(s.port.kind = .load ∧ s.port.table = .steps ∧ s.port.wordPos ≠ 0) := by simp [horder.2]
    rw [closeSession_order (s := verdict 0x1A .accepted 0 s) horder, if_pos horder, if_neg hpartial]
    have hstaging := stagingBank_setStaging { stagingBank s with order := closedOrder s } s
    obtain ⟨hactive, hpending, hincomplete⟩ := setStaging_tables_frame { stagingBank s with order := closedOrder s } s
    exact ⟨rfl, rfl, rfl, rfl, rfl, rfl, rfl, rfl, activeBank_setStaging _ s, hactive, hpending, hincomplete,
      (congrArg Bank.steps hstaging :), (congrArg Bank.order hstaging :), ⟨rfl, rfl, rfl⟩, rfl⟩
  · rw [if_neg horder]
    by_cases hpartial : s.port.kind = .load ∧ s.port.table = .steps ∧ s.port.wordPos ≠ 0
    · rw [closeSession_partial (s := verdict 0x1A .accepted 0 s) hpartial, if_pos hpartial]
      exact ⟨rfl, rfl, rfl, rfl, rfl, rfl, rfl, rfl, rfl, rfl, rfl, rfl, rfl, rfl, ⟨rfl, rfl, rfl⟩, rfl⟩
    · rw [closeSession_plain (s := verdict 0x1A .accepted 0 s) horder hpartial, if_neg hpartial]
      exact ⟨rfl, rfl, rfl, rfl, rfl, rfl, rfl, rfl, rfl, rfl, rfl, rfl, rfl, rfl, ⟨rfl, rfl, rfl⟩, rfl⟩

/-! ### OPEN_LOAD and OPEN_READ -/

/-- A close does not look at the Command Unit. -/
theorem closeSession_verdict (code : Word) (r : ResultCode) (d : Word) (s : State) : closeSession (verdict code r d s) =
    { closeSession s with cmd := { s.cmd with last := code, result := r, detail := d } } := by
  by_cases horder : s.port.kind = .load ∧ s.port.table = .order
  · rw [closeSession_order horder, closeSession_order (s := verdict code r d s) horder]
    rfl
  · by_cases hpartial : partialRecord s
    · rw [closeSession_partial hpartial, closeSession_partial (s := verdict code r d s) hpartial]
      rfl
    · rw [closeSession_plain horder hpartial, closeSession_plain (s := verdict code r d s) horder hpartial]
      rfl

theorem tableOf_arg (w : Word) : tableOf w.toNat = if w = 0 then .steps else .order := by
  by_cases h : w = 0
  · rw [if_pos h, h]
    rfl
  · rw [if_neg h]
    obtain ⟨n, hn⟩ := Nat.exists_eq_succ_of_ne_zero fun h0 => h ((word_eq_zero_iff w).mpr h0)
    rw [hn]
    rfl

theorem bankOf_arg (w : Word) : bankOf w.toNat = if w = 0 then .active else .staging := by
  by_cases h : w = 0
  · rw [if_pos h, h]
    rfl
  · rw [if_neg h]
    obtain ⟨n, hn⟩ := Nat.exists_eq_succ_of_ne_zero fun h0 => h ((word_eq_zero_iff w).mpr h0)
    rw [hn]
    rfl

/-- The table and the index are in range (R129, R130). -/
theorem openRange_iff (s : State) : openRange s = true ↔
    (s.cmd.arg[0] = 0 ∧ (s.cmd.arg[1]).toNat ≤ 127) ∨ (s.cmd.arg[0] = 1 ∧ (s.cmd.arg[1]).toNat ≤ 511) := by
  simp only [openRange, Bool.or_eq_true, Bool.and_eq_true, decide_eq_true_eq, word_eq_zero_iff, word_eq_one_iff]
  exact Iff.rfl

theorem openRange_eq_false_iff (s : State) : openRange s = false ↔
    (1 < (s.cmd.arg[0]).toNat ∨ (s.cmd.arg[0] = 0 ∧ 127 < (s.cmd.arg[1]).toNat) ∨ 511 < (s.cmd.arg[1]).toNat) := by
  rw [← Bool.not_eq_true, openRange_iff]
  simp only [word_eq_zero_iff, word_eq_one_iff]
  omega

/-- The staging length that an ORDER start is held against (R129, R131). -/
theorem lengthAfterClose_eq (s : State) : lengthAfterClose s =
    if s.port.kind = .load ∧ s.port.table = .order then s.port.start + s.port.written
    else (stagingBank s).order.length := if_congr (orderLoad_iff s) rfl rfl

/-- The refusals of OPEN_LOAD, in order (R129). -/
def openLoadRefusal (s : State) : Option (ResultCode × Word) :=
  firstRefusal [(s.tables.commitPending, .commitPending), (loadInFlight s || saveOfStagingInFlight s, .storeBusy),
    (arg 0 s = 1 && lengthAfterClose s < arg 1 s, .badArgument)]

theorem openLoadRefusal_eq_none {s : State} (hpending : s.tables.commitPending = false) (hload : loadInFlight s = false)
    (hsave : saveOfStagingInFlight s = false)
    (hrange : s.cmd.arg[0] = 0 ∨ (s.cmd.arg[1]).toNat ≤ lengthAfterClose s) : openLoadRefusal s = none := by
  have hlast : (arg 0 s = 1 && lengthAfterClose s < arg 1 s) = false := by
    rw [Bool.and_eq_false_iff, decide_eq_false_iff_not, decide_eq_false_iff_not]
    rcases hrange with h | h
    · exact .inl (by rw [word_eq_zero_iff] at h; exact fun h1 => absurd (h.symm.trans h1) (by decide))
    · exact .inr (Nat.not_lt.mpr h)
  simp only [openLoadRefusal, firstRefusal, hpending, hload, hsave, hlast, Bool.or_self, Bool.false_eq_true, if_false]

theorem openLoadRefusal_eq_some {s : State} {r : ResultCode}
    (h : if s.tables.commitPending = true then r = .commitPending
      else if loadInFlight s = true ∨ saveOfStagingInFlight s = true then r = .storeBusy
      else r = .badArgument ∧ s.cmd.arg[0] = 1 ∧ lengthAfterClose s < (s.cmd.arg[1]).toNat) :
    openLoadRefusal s = some (r, 0) := by
  simp only [← Bool.or_eq_true] at h
  unfold openLoadRefusal firstRefusal
  split_ifs at h with hpending hbusy
  · simp [hpending, h]
  · simp [firstRefusal, hpending, hbusy, h]
  · obtain ⟨rfl, htable, hlength⟩ := h
    have hlast : (arg 0 s = 1 && lengthAfterClose s < arg 1 s) = true :=
      (Bool.and_eq_true _ _).mpr ⟨decide_eq_true ((word_eq_one_iff _).mp htable), decide_eq_true hlength⟩
    simp [firstRefusal, hpending, hbusy, hlast]

/-- The argument check of OPEN_READ fails (R130). -/
theorem openReadArgs_eq_false_iff (s : State) : (openRange s && arg 2 s ≤ 1) = false ↔
    (1 < (s.cmd.arg[0]).toNat ∨ (s.cmd.arg[0] = 0 ∧ 127 < (s.cmd.arg[1]).toNat) ∨ 511 < (s.cmd.arg[1]).toNat ∨
      1 < (s.cmd.arg[2]).toNat) := by
  rw [Bool.and_eq_false_iff, openRange_eq_false_iff, decide_eq_false_iff_not, Nat.not_le, or_assoc, or_assoc]
  exact Iff.rfl

theorem openReadRefusal_eq_none {s : State} (h : s.cmd.arg[2] = 1 → loadInFlight s = false) :
    firstRefusal [(arg 2 s = 1 && loadInFlight s, .storeBusy)] = none := by
  have happlies : (arg 2 s = 1 && loadInFlight s) = false := by
    rw [Bool.and_eq_false_iff, decide_eq_false_iff_not]
    by_cases h1 : s.cmd.arg[2] = 1
    · exact .inr (h h1)
    · exact .inl fun h' => h1 ((word_eq_one_iff _).mpr h')
  simp only [firstRefusal, happlies, Bool.false_eq_true, if_false]

theorem exec_openLoad {s : State} (hs : commandable s) (hrange : openRange s = true) (hrefusal : openLoadRefusal s = none) :
    exec .openLoad s = .next (openSession .load (if s.cmd.arg[0] = 0 then .steps else .order) .staging (s.cmd.arg[1]).toNat
      (verdict 0x18 .accepted 0 s)) := by
  rw [← tableOf_arg]
  exact accepted_next hs hrange hrefusal

theorem exec_openRead {s : State} (hs : commandable s) (hrange : openRange s = true) (hbank : (s.cmd.arg[2]).toNat ≤ 1)
    (hload : s.cmd.arg[2] = 1 → loadInFlight s = false) :
    exec .openRead s = .next (openSession .read (if s.cmd.arg[0] = 0 then .steps else .order)
      (if s.cmd.arg[2] = 0 then .active else .staging) (s.cmd.arg[1]).toNat (verdict 0x19 .accepted 0 s)) := by
  rw [← tableOf_arg, ← bankOf_arg]
  exact accepted_next hs ((Bool.and_eq_true _ _).mpr ⟨hrange, decide_eq_true hbank⟩) (openReadRefusal_eq_none hload)

theorem openSession_of_none (kind : SessionKind) (table : TableKind) (bank : BankRole) (start : Nat) {s : State}
    (h : s.port.kind = .none) : openSession kind table bank start s = { s with port := {
      kind := kind, table := table, bank := bank, start := start, next := start, wordPos := 0, assembly := [], written := 0,
      beyond := [], tableFull := false, lastError := .none, errorIndex := 0 } } := by
  simp only [openSession, h, if_true]

/-- The state with the error of the port set to NONE (R131). -/
def errorCleared (s : State) : State := { s with port := { s.port with lastError := .none, errorIndex := 0 } }

/-- With a session open, an OPEN is the close with the error set to NONE before, and the new session over it (R131). -/
theorem openSession_of_open (kind : SessionKind) (table : TableKind) (bank : BankRole) (start : Nat) {s : State}
    (code : Word) (h : s.port.kind ≠ .none) (u : State)
    (hu : u = closeSession (verdict 0x1A .accepted 0 (errorCleared s))) :
    openSession kind table bank start (verdict code .accepted 0 s) = { u with
      cmd := { s.cmd with last := code, result := .accepted, detail := 0 }
      port := { u.port with
        kind := kind, table := table, bank := bank, start := start, next := start, wordPos := 0, assembly := [],
        written := 0, beyond := [], tableFull := false } } := by
  have hclose : openSession kind table bank start (verdict code .accepted 0 s) =
      { closeSession (verdict code .accepted 0 (errorCleared s)) with
        port := { (closeSession (verdict code .accepted 0 (errorCleared s))).port with
          kind := kind, table := table, bank := bank, start := start, next := start, wordPos := 0, assembly := [],
          written := 0, beyond := [], tableFull := false } } := by
    have hif : (if (errorCleared s).port.kind = .none then verdict code .accepted 0 (errorCleared s)
        else closeSession (verdict code .accepted 0 (errorCleared s))) =
        closeSession (verdict code .accepted 0 (errorCleared s)) := if_neg h
    rw [← hif]
    rfl
  rw [hclose, hu, closeSession_verdict, closeSession_verdict]
  rfl

/-- Settles O39: the close that an open session makes first, the refusals in order, and the new session. -/
theorem openStartsSession : Obligations.OpenStartsSession := by
  refine ⟨fun s u c hs hopen hclose => ⟨?_, ?_⟩, fun s r hs h => ?_, fun s r hs h => ?_,
    fun s hs hnone hpending hload hsave hrange => ?_, fun s hs hnone hload hbank hrange => ?_⟩
  · rintro rfl hpending hload hsave hrange
    have hu := (Host.Outcome.next.inj ((exec_closePort (s := errorCleared s) hs hopen).symm.trans hclose)).symm
    rw [exec_openLoad hs, openSession_of_open _ _ _ _ 0x18 hopen u hu]
    · exact (openRange_iff s).mpr (hrange.imp_right fun ⟨h1, h2, _⟩ => ⟨h1, h2⟩)
    · refine openLoadRefusal_eq_none hpending hload hsave ?_
      rw [lengthAfterClose_eq]
      exact hrange.imp (fun h => h.1) fun h => h.2.2
  · rintro rfl hload hbank hrange
    have hu := (Host.Outcome.next.inj ((exec_closePort (s := errorCleared s) hs hopen).symm.trans hclose)).symm
    rw [exec_openRead hs ((openRange_iff s).mpr hrange) hbank hload, openSession_of_open _ _ _ _ 0x19 hopen u hu]
  · rw [← lengthAfterClose_eq] at h
    by_cases hrange : openRange s = false
    · rw [if_pos ((openRange_eq_false_iff s).mp hrange)] at h
      exact h ▸ badArgument_next hs hrange
    · rw [if_neg fun h' => hrange ((openRange_eq_false_iff s).mpr h')] at h
      exact refused_next hs (Bool.not_eq_false _ ▸ hrange) (openLoadRefusal_eq_some h)
  · by_cases hargs : (openRange s && arg 2 s ≤ 1) = false
    · rw [if_pos ((openReadArgs_eq_false_iff s).mp hargs)] at h
      exact h ▸ badArgument_next hs hargs
    · rw [if_neg fun h' => hargs ((openReadArgs_eq_false_iff s).mpr h')] at h
      obtain ⟨rfl, hstaging, hload⟩ := h
      have happlies : (arg 2 s = 1 && loadInFlight s) = true :=
        (Bool.and_eq_true _ _).mpr ⟨decide_eq_true ((word_eq_one_iff _).mp hstaging), hload⟩
      exact refused_next hs (Bool.not_eq_false _ ▸ hargs) (firstRefusal_cons_applies happlies _ _)
  · rw [exec_openLoad hs, openSession_of_none (s := verdict 0x18 .accepted 0 s) _ _ _ _ hnone]
    · rfl
    · exact (openRange_iff s).mpr (hrange.imp_right fun ⟨h1, h2, _⟩ => ⟨h1, h2⟩)
    · refine openLoadRefusal_eq_none hpending hload hsave ?_
      rw [lengthAfterClose_eq, if_neg (by simp [hnone])]
      exact hrange.imp (fun h => h.1) fun h => h.2.2
  · rw [exec_openRead hs ((openRange_iff s).mpr hrange) hbank hload,
      openSession_of_none (s := verdict 0x19 .accepted 0 s) _ _ _ _ hnone]
    rfl

/-! ### The words of an ORDER load session -/

/-- Past the table's end TABLE_FULL is reported once (R136, R137). -/
theorem pastEnd_eq (s : State) : pastEnd s = if s.port.tableFull = true then s else { s with
    port := { s.port with tableFull := true, lastError := .tableFull, errorIndex := word s.port.next }
    status := { s.status with flags := s.status.flags ||| portErrorFlag } } := rfl

theorem exec_orderWord {s : State} (hs : s.inReset = false) (hkind : s.port.kind = .load) (htable : s.port.table = .order)
    (w : Word) : exec (.tpDataWrite w) s = .next (orderWord w s) := by
  rw [exec_tpDataWrite hs]
  simp only [writeTpData, hkind, htable]

/-- Settles O43: below the staging length, at or beyond it, and past the table's end. -/
theorem orderLoadWords : Obligations.OrderLoadWords := by
  refine ⟨fun s w hs hkind htable hend => ?_, fun s w hs hkind htable hnext => ?_⟩
  · rw [exec_orderWord hs hkind htable, orderWord, if_pos hend, pastEnd_eq]
  · refine ⟨_, exec_orderWord hs hkind htable w, ?_⟩
    rw [orderWord, if_neg (Nat.not_le.mpr hnext)]
    by_cases hbelow : s.port.next < (stagingBank s).order.length
    · rw [if_pos hbelow]
      have hstaging := stagingBank_setStaging
        { stagingBank s with order := (stagingBank s).order.set s.port.next (decodeOrder w) } s
      obtain ⟨hactive, hpending, hincomplete⟩ := setStaging_tables_frame
        { stagingBank s with order := (stagingBank s).order.set s.port.next (decodeOrder w) } s
      exact ⟨rfl, rfl, hactive, hpending, hincomplete, activeBank_setStaging _ s, (congrArg Bank.steps hstaging :),
        fun _ => ⟨(congrArg Bank.order hstaging :), rfl⟩, fun h => absurd hbelow (Nat.not_lt.mpr h), rfl⟩
    · rw [if_neg hbelow]
      exact ⟨rfl, rfl, rfl, rfl, rfl, rfl, rfl, fun h => absurd h hbelow, fun _ => ⟨rfl, rfl⟩, rfl⟩

end Sys2Proof.Proofs
end

section
/-! The decoder and the encoder (O60). The channel entries and the sync entries of a record are decoded by one scheme: two
words an entry, a check of the words, and a name that no earlier entry has. The scheme is defined and reasoned about once. -/
namespace Sys2Proof.Proofs
open Sys2Proof.Machine

/-! ### The scheme -/

/-- The decoding of `n` entries of two words each: the words are checked, then the name against those of earlier entries
(R135). -/
def decodeEntries {α β : Type} [DecidableEq α] (sound : Word → Word → Bool) (name : Word → α) (make : Word → Word → β) :
    Nat → List α → List Word → Except PortError (List β × List Word)
  | 0, _, ws => .ok ([], ws)
  | n + 1, earlier, w :: v :: ws =>
    if sound w v = false then .error .badField
    else if name w ∈ earlier then .error .duplicate
    else (decodeEntries sound name make n (name w :: earlier) ws).map fun p => (make w v :: p.1, p.2)
  | _ + 1, _, _ => .error .badField

/-- The level and the width of a channel entry are not 0 (R135). -/
def channelSound (w v : Word) : Bool := bits w 9 0 != 0 && v != 0

def channelName (w : Word) : Fin 8 := Fin.ofNat 8 (bits w 15 13)

def channelMade (w v : Word) : ChannelEntry :=
  { channel := channelName w, level := BitVec.ofNat 10 (bits w 9 0), width := v }

/-- The width of a sync entry is not 0 (R135). -/
def syncSound (w _v : Word) : Bool := bits w 13 0 != 0

def syncName (w : Word) : Fin 4 := Fin.ofNat 4 (bits w 15 14)

def syncMade (w v : Word) : SyncEntry := { output := syncName w, width := BitVec.ofNat 14 (bits w 13 0), delay := v }

theorem channelName_def (w : Word) : Fin.ofNat 8 (bits w 15 13) = channelName w := rfl

theorem syncName_def (w : Word) : Fin.ofNat 4 (bits w 15 14) = syncName w := rfl

theorem channelSound_eq_false (w v : Word) : channelSound w v = false ↔ bits w 9 0 = 0 ∨ v = 0 := by
  rw [channelSound, Bool.and_eq_false_iff, bne_eq_false_iff_eq, bne_eq_false_iff_eq]

theorem syncSound_eq_false (w v : Word) : syncSound w v = false ↔ bits w 13 0 = 0 := bne_eq_false_iff_eq

theorem decodeChannels_eq : ∀ (n : Nat) (earlier : List (Fin 8)) (ws : List Word),
    decodeChannels n earlier ws = decodeEntries channelSound channelName channelMade n earlier ws
  | 0, _, _ => rfl
  | _ + 1, _, [] => rfl
  | _ + 1, _, [_] => rfl
  | n + 1, earlier, w :: v :: ws => by
    rw [decodeChannels, decodeEntries, decodeChannels_eq n, channelName_def]
    simp only [channelSound_eq_false, List.contains_iff_mem]
    by_cases hlevel : bits w 9 0 = 0
    · rw [if_pos hlevel, if_pos (.inl hlevel)]
    by_cases hwidth : v = 0
    · rw [if_neg hlevel, if_pos hwidth, if_pos (.inr hwidth)]
    rw [if_neg hlevel, if_neg hwidth, if_neg (not_or.mpr ⟨hlevel, hwidth⟩)]
    refine if_congr Iff.rfl rfl ?_
    cases decodeEntries channelSound channelName channelMade n (channelName w :: earlier) ws <;> rfl

theorem decodeSyncs_eq : ∀ (n : Nat) (earlier : List (Fin 4)) (ws : List Word),
    decodeSyncs n earlier ws = decodeEntries syncSound syncName syncMade n earlier ws
  | 0, _, _ => rfl
  | _ + 1, _, [] => rfl
  | _ + 1, _, [_] => rfl
  | n + 1, earlier, w :: v :: ws => by
    rw [decodeSyncs, decodeEntries, decodeSyncs_eq n, syncName_def]
    simp only [syncSound_eq_false, List.contains_iff_mem]
    refine if_congr Iff.rfl rfl (if_congr Iff.rfl rfl ?_)
    cases decodeEntries syncSound syncName syncMade n (syncName w :: earlier) ws <;> rfl

section
variable {α β : Type} [DecidableEq α] {sound : Word → Word → Bool} {name : Word → α} {make : Word → Word → β}

theorem decodeEntries_cons {n : Nat} {earlier : List α} {w v : Word} {ws : List Word} (hsound : sound w v = true)
    (hnew : name w ∉ earlier) : decodeEntries sound name make (n + 1) earlier (w :: v :: ws) =
      (decodeEntries sound name make n (name w :: earlier) ws).map fun p => (make w v :: p.1, p.2) := by
  rw [decodeEntries, if_neg (by simp [hsound]), if_neg hnew]

/-- What decodes: as many entries as asked for, each of sound words, and each with a name of its own. -/
theorem decodeEntries_ok {key : β → α} (hkey : ∀ w v, key (make w v) = name w) :
    ∀ {n : Nat} {earlier : List α} {ws rest : List Word} {es : List β},
      decodeEntries sound name make n earlier ws = .ok (es, rest) →
      es.length = n ∧ (∀ e ∈ es, ∃ w v, sound w v = true ∧ e = make w v) ∧ (es.map key).Nodup ∧
        ∀ e ∈ es, key e ∉ earlier
  | 0, _, _, _, _, h => by
    obtain ⟨rfl, -⟩ := Prod.mk.inj (Except.ok.inj h)
    simp
  | _ + 1, _, [], _, _, h => by cases h
  | _ + 1, _, [_], _, _, h => by cases h
  | n + 1, earlier, w :: v :: ws, rest, es, h => by
    rw [decodeEntries] at h
    by_cases hsound : sound w v = false
    · rw [if_pos hsound] at h
      cases h
    by_cases hnew : name w ∈ earlier
    · rw [if_neg hsound, if_pos hnew] at h
      cases h
    rw [if_neg hsound, if_neg hnew] at h
    cases hrec : decodeEntries sound name make n (name w :: earlier) ws with
    | error e =>
      rw [hrec] at h
      cases h
    | ok p =>
      obtain ⟨es', rest'⟩ := p
      rw [hrec] at h
      obtain ⟨rfl, rfl⟩ := Prod.mk.inj (Except.ok.inj h)
      obtain ⟨hlength, hmade, hnodup, hearlier⟩ := decodeEntries_ok hkey hrec
      refine ⟨by simp [hlength], ?_, ?_, ?_⟩
      · rintro e (_ | ⟨_, he⟩)
        · exact ⟨w, v, Bool.not_eq_false _ ▸ hsound, rfl⟩
        · exact hmade e he
      · rw [List.map_cons, List.nodup_cons, hkey]
        refine ⟨fun hmem => ?_, hnodup⟩
        obtain ⟨e, he, heq⟩ := List.mem_map.mp hmem
        exact hearlier e he (heq ▸ List.mem_cons_self)
      · rintro e (_ | ⟨_, he⟩)
        · rw [hkey]
          exact hnew
        · exact fun hmem => hearlier e he (List.mem_cons_of_mem _ hmem)

/-- Entries that are encoded in two sound words decode to themselves. -/
theorem decodeEntries_encode {key : β → α} {first second : β → Word} {rest : List Word} :
    ∀ {es : List β} {earlier : List α},
      (∀ e ∈ es, sound (first e) (second e) = true ∧ name (first e) = key e ∧ make (first e) (second e) = e) →
      (es.map key).Nodup → (∀ e ∈ es, key e ∉ earlier) →
      decodeEntries sound name make es.length earlier (es.flatMap (fun e => [first e, second e]) ++ rest) = .ok (es, rest)
  | [], _, _, _, _ => rfl
  | e :: es, earlier, h, hnodup, hearlier => by
    obtain ⟨hsound, hname, hmake⟩ := h e List.mem_cons_self
    rw [List.map_cons, List.nodup_cons] at hnodup
    have hnew : name (first e) ∉ earlier := hname ▸ hearlier e List.mem_cons_self
    have hrec := decodeEntries_encode (rest := rest) (es := es) (earlier := name (first e) :: earlier)
      (fun x hx => h x (List.mem_cons_of_mem _ hx)) hnodup.2 fun x hx hmem => by
        rcases List.mem_cons.mp hmem with heq | hin
        · exact hnodup.1 (List.mem_map.mpr ⟨x, hx, heq.trans hname⟩)
        · exact hearlier x (List.mem_cons_of_mem _ hx) hin
    have hwords : (e :: es).flatMap (fun e => [first e, second e]) ++ rest =
        first e :: second e :: (es.flatMap (fun e => [first e, second e]) ++ rest) := rfl
    rw [hwords, List.length_cons, decodeEntries_cons hsound hnew, hrec, ← hmake]
    simp [Except.map, hmake]

end

/-! ### The bits of the words of 10.4 -/

/-- A field of `k` bits is less than 2ᵏ. -/
theorem bits_lt (w : Word) (hi lo : Nat) : bits w hi lo < 2 ^ (hi + 1 - lo) := Nat.mod_lt _ (Nat.two_pow_pos _)

/-- A field that a bit vector of its size holds is 0 when the vector is. -/
theorem bits_eq_zero {w : Word} {hi lo : Nat} (h : BitVec.ofNat (hi + 1 - lo) (bits w hi lo) = 0) : bits w hi lo = 0 := by
  have htoNat := congrArg BitVec.toNat h
  rwa [BitVec.toNat_ofNat, Nat.mod_eq_of_lt (bits_lt w hi lo)] at htoNat

theorem toNat_word {n : Nat} (h : n < 65536) : (word n).toNat = n := Nat.mod_eq_of_lt h

/-- The first word of a channel entry (10.4). -/
def channelWord (e : ChannelEntry) : Word := word (e.channel.val * 8192 + e.level.toNat)

/-- The first word of a sync entry (10.4). -/
def syncWord (e : SyncEntry) : Word := word (e.output.val * 16384 + e.width.toNat)

theorem channelWord_bits (e : ChannelEntry) :
    bits (channelWord e) 9 0 = e.level.toNat ∧ channelName (channelWord e) = e.channel := by
  have hchannel := e.channel.isLt
  have hlevel := e.level.isLt
  have hword : (channelWord e).toNat = _ := toNat_word (n := e.channel.val * 8192 + e.level.toNat) (by omega)
  refine ⟨?_, Fin.ext ?_⟩
  · simp only [bits, hword]
    omega
  · simp only [channelName, bits, hword, Fin.ofNat]
    omega

theorem syncWord_bits (e : SyncEntry) :
    bits (syncWord e) 13 0 = e.width.toNat ∧ syncName (syncWord e) = e.output := by
  have houtput := e.output.isLt
  have hwidth := e.width.isLt
  have hword : (syncWord e).toNat = _ := toNat_word (n := e.output.val * 16384 + e.width.toNat) (by omega)
  refine ⟨?_, Fin.ext ?_⟩
  · simp only [bits, hword]
    omega
  · simp only [syncName, bits, hword, Fin.ofNat]
    omega

theorem decodeAdvance_encode {adv : Advance} (h : ∀ mask, adv = .trigger mask → mask ≠ 0) :
    decodeAdvance (encodeAdvance adv) = .ok adv := by
  cases adv with
  | immediate => rfl
  | trigger mask =>
    have hlt := mask.isLt
    have hne : mask.toNat ≠ 0 := fun h0 => h mask rfl (BitVec.eq_of_toNat_eq h0)
    have hword := toNat_word (n := 16384 + mask.toNat) (by omega)
    have hkind : bits (word (16384 + mask.toNat)) 15 14 = 1 := by
      simp only [bits, hword]
      omega
    have hmask : bits (word (16384 + mask.toNat)) 4 0 = mask.toNat := by
      simp only [bits, hword]
      omega
    simp only [decodeAdvance, encodeAdvance, hkind, hmask, hne, if_false]
    simp

/-- A mask that an advance word declares is not empty (R135). -/
theorem decodeAdvance_ok {w : Word} {mask : SourceMask} (h : decodeAdvance w = .ok (.trigger mask)) : mask ≠ 0 := by
  unfold decodeAdvance at h
  split at h
  · cases h
  · split_ifs at h with hmask
    cases h
    exact fun hzero => hmask (bits_eq_zero hzero)
  · cases h

/-! ### Step records -/

/-- A step record within the ranges of R2 to R5, clause by clause. -/
theorem wf_record_iff (r : StepRecord) : r.wf = true ↔
    (∀ mask, r.advance = .trigger mask → mask ≠ 0) ∧ r.channels.length ≤ 8 ∧ r.syncs.length ≤ 4 ∧
    (∀ e ∈ r.channels, e.level ≠ 0 ∧ e.width ≠ 0) ∧ (∀ e ∈ r.syncs, e.width ≠ 0) ∧
    (r.channels.map (·.channel)).Nodup ∧ (r.syncs.map (·.output)).Nodup := by
  cases hadvance : r.advance <;> simp [StepRecord.wf, hadvance, and_assoc]

theorem decodeChannels_encode {es : List ChannelEntry} {rest : List Word} (h : ∀ e ∈ es, e.level ≠ 0 ∧ e.width ≠ 0)
    (hnodup : (es.map (·.channel)).Nodup) :
    decodeChannels es.length [] (es.flatMap encodeChannel ++ rest) = .ok (es, rest) := by
  rw [decodeChannels_eq]
  refine decodeEntries_encode (key := ChannelEntry.channel) (first := channelWord) (second := ChannelEntry.width)
    (fun e he => ?_) hnodup (fun _ _ => List.not_mem_nil)
  obtain ⟨hlevel, hwidth⟩ := h e he
  obtain ⟨hbits, hname⟩ := channelWord_bits e
  have hne : e.level.toNat ≠ 0 := fun h0 => hlevel (BitVec.eq_of_toNat_eq h0)
  exact ⟨by simpa [channelSound, hbits, hne] using hwidth, hname, by simp [channelMade, hbits, hname]⟩

theorem decodeSyncs_encode {es : List SyncEntry} {rest : List Word} (h : ∀ e ∈ es, e.width ≠ 0)
    (hnodup : (es.map (·.output)).Nodup) :
    decodeSyncs es.length [] (es.flatMap encodeSync ++ rest) = .ok (es, rest) := by
  rw [decodeSyncs_eq]
  refine decodeEntries_encode (key := SyncEntry.output) (first := syncWord) (second := SyncEntry.delay)
    (fun e he => ?_) hnodup (fun _ _ => List.not_mem_nil)
  obtain ⟨hbits, hname⟩ := syncWord_bits e
  have hne : e.width.toNat ≠ 0 := fun h0 => h e he (BitVec.eq_of_toNat_eq h0)
  exact ⟨by simp [syncSound, hbits, hne], hname, by simp [syncMade, hbits, hname]⟩

theorem headerTag_encodeHeader {r : StepRecord} (h : r.wf = true) :
    BitVec.ofNat 8 (bits (encodeHeader r) 15 8) = r.tag := by
  obtain ⟨hchannels, hsyncs⟩ := StepRecord.wf_lengths h
  have htag := r.tag.isLt
  have hbits : bits (encodeHeader r) 15 8 = r.tag.toNat := by
    rw [bits, toNat_encodeHeader h]
    omega
  rw [hbits, BitVec.ofNat_toNat, BitVec.setWidth_eq]

theorem headerLegal_encodeHeader {r : StepRecord} (h : r.wf = true) : headerLegal (encodeHeader r) = true := by
  obtain ⟨hchannels, hsyncs⟩ := StepRecord.wf_lengths h
  simp [headerLegal, headerChannels_encodeHeader h, headerSyncs_encodeHeader h, hchannels, hsyncs]

theorem declaredLength_encodeHeader {r : StepRecord} (h : r.wf = true) :
    declaredLength (encodeHeader r) = (encodeRecord r).length := by
  rw [declaredLength, headerChannels_encodeHeader h, headerSyncs_encodeHeader h, length_encodeRecord]

/-- The words of a well-formed record decode to it, whatever stands behind them (10.4). -/
theorem decodeRecord_encode {r : StepRecord} (h : r.wf = true) (unused : List Word) :
    decodeRecord (encodeRecord r ++ unused) = .ok r := by
  obtain ⟨hadvance, -, -, hchannels, hsyncs, hnodup, hnodup'⟩ := (wf_record_iff r).mp h
  have hwords : encodeRecord r ++ unused = encodeHeader r :: encodeAdvance r.advance :: r.delay :: r.gap ::
      (r.channels.flatMap encodeChannel ++ (r.syncs.flatMap encodeSync ++ unused)) := by
    simp [encodeRecord]
  simp only [hwords, decodeRecord, headerLegal_encodeHeader h, if_true, decodeAdvance_encode hadvance,
    headerChannels_encodeHeader h, headerSyncs_encodeHeader h, decodeChannels_encode hchannels hnodup,
    decodeSyncs_encode hsyncs hnodup', headerTag_encodeHeader h]

/-- The parts of a record that decodes (R133 to R135). -/
theorem decodeRecord_ok {ws : List Word} {r : StepRecord} (h : decodeRecord ws = .ok r) :
    ∃ (header advance : Word) (body rest rest' : List Word), headerLegal header = true ∧
      decodeAdvance advance = .ok r.advance ∧
      decodeChannels (headerChannels header) [] body = .ok (r.channels, rest) ∧
      decodeSyncs (headerSyncs header) [] rest = .ok (r.syncs, rest') := by
  unfold decodeRecord at h
  split at h
  · rename_i header advance delay gap body
    split_ifs at h with hlegal
    split at h
    · cases h
    · rename_i adv hadvance
      split at h
      · cases h
      · rename_i chs rest hchannels
        split at h
        · cases h
        · rename_i ss rest' hsyncs
          cases h
          exact ⟨header, advance, body, rest, rest', hlegal, hadvance, hchannels, hsyncs⟩
  · cases h

theorem decodeRecord_wf {ws : List Word} {r : StepRecord} (h : decodeRecord ws = .ok r) : r.wf = true := by
  obtain ⟨header, advance, body, rest, rest', hlegal, hadvance, hchannels, hsyncs⟩ := decodeRecord_ok h
  rw [decodeChannels_eq] at hchannels
  rw [decodeSyncs_eq] at hsyncs
  obtain ⟨hlength, hmade, hnodup, -⟩ := decodeEntries_ok (key := ChannelEntry.channel) (make := channelMade) (fun _ _ => rfl) hchannels
  obtain ⟨hlength', hmade', hnodup', -⟩ := decodeEntries_ok (key := SyncEntry.output) (make := syncMade) (fun _ _ => rfl) hsyncs
  simp only [headerLegal, Bool.and_eq_true, decide_eq_true_eq] at hlegal
  refine (wf_record_iff r).mpr ⟨fun mask hmask => decodeAdvance_ok (hmask ▸ hadvance), hlength ▸ hlegal.1, hlength' ▸ hlegal.2,
    fun e he => ?_, fun e he => ?_, hnodup, hnodup'⟩
  · obtain ⟨w, v, hsound, rfl⟩ := hmade e he
    simp only [channelSound, Bool.and_eq_true, bne_iff_ne] at hsound
    exact ⟨fun hzero => hsound.1 (bits_eq_zero hzero), hsound.2⟩
  · obtain ⟨w, v, hsound, rfl⟩ := hmade' e he
    simp only [syncSound, bne_iff_ne] at hsound
    exact fun hzero => hsound (bits_eq_zero hzero)

/-! ### Order entries -/

theorem flagNat_injective : ∀ {a b : Bool}, flagNat a = flagNat b → a = b := by decide

theorem decodeOrder_encode (e : OrderEntry) : decodeOrder (encodeOrder e) = e := by
  obtain ⟨step, count, halt⟩ := e
  have hstep := step.isLt
  have hcount := count.isLt
  have hflag : flagNat halt ≤ 1 := by cases halt <;> decide
  have hword := toNat_word (n := count.val * 4096 + flagNat halt * 2048 + step.val) (by omega)
  have hhalt : bit (word (count.val * 4096 + flagNat halt * 2048 + step.val)) 11 = halt := by
    have hbit := flagNat_bit (word (count.val * 4096 + flagNat halt * 2048 + step.val)) 11
    rw [hword] at hbit
    have hsame : flagNat (bit (word (count.val * 4096 + flagNat halt * 2048 + step.val)) 11) = flagNat halt := by omega
    exact flagNat_injective hsame
  simp only [decodeOrder, encodeOrder, hhalt, OrderEntry.mk.injEq, and_true]
  refine ⟨Fin.ext ?_, Fin.ext ?_⟩
  · simp only [bits, hword, Fin.ofNat]
    omega
  · simp only [bits, hword, Fin.ofNat]
    omega

/-- Settles O60: records and order entries decode from their words, and what decodes is well formed. -/
theorem tableEncodingsAgree : Obligations.TableEncodingsAgree :=
  ⟨fun r unused h => ⟨decodeRecord_encode h unused, length_encodeRecord r, encodeHeader r, _, rfl,
    declaredLength_encodeHeader h, headerLegal_encodeHeader h⟩, decodeOrder_encode, fun _ _ h => decodeRecord_wf h⟩

end Sys2Proof.Proofs
end

section
/-! The words of a step load session (O41, O42). -/
namespace Sys2Proof.Proofs
open Sys2Proof.Machine

/-! ### Where the decoding of entries ends -/

/-- The first word of entry `i` of a list of entries of two words each. -/
def firstWord (ws : List Word) (i : Nat) : Word := ws.getD (2 * i) 0

def secondWord (ws : List Word) (i : Nat) : Word := ws.getD (2 * i + 1) 0

@[simp] theorem firstWord_zero (w v : Word) (ws : List Word) : firstWord (w :: v :: ws) 0 = w := rfl

@[simp] theorem secondWord_zero (w v : Word) (ws : List Word) : secondWord (w :: v :: ws) 0 = v := rfl

@[simp] theorem firstWord_succ (w v : Word) (ws : List Word) (i : Nat) :
    firstWord (w :: v :: ws) (i + 1) = firstWord ws i := by
  simp [firstWord, Nat.mul_add]

@[simp] theorem secondWord_succ (w v : Word) (ws : List Word) (i : Nat) :
    secondWord (w :: v :: ws) (i + 1) = secondWord ws i := by
  simp [secondWord, Nat.mul_add]

/-- Entry `i` passes the check of its words. -/
def entrySound (sound : Word → Word → Bool) (ws : List Word) (i : Nat) : Prop :=
  sound (firstWord ws i) (secondWord ws i) = true

/-- Entry `i` has a name that neither an earlier entry of the list nor one before the list has. -/
def entryNew {α : Type} (name : Word → α) (earlier : List α) (ws : List Word) (i : Nat) : Prop :=
  name (firstWord ws i) ∉ earlier ∧ ∀ j < i, name (firstWord ws j) ≠ name (firstWord ws i)

/-- The first check that entry `i` fails, as an error. -/
inductive EntryFails {α : Type} (sound : Word → Word → Bool) (name : Word → α) (earlier : List α) (ws : List Word) (i : Nat) :
    PortError → Prop
  | badField (h : ¬entrySound sound ws i) : EntryFails sound name earlier ws i .badField
  | duplicate (h : entrySound sound ws i) (hnew : ¬entryNew name earlier ws i) :
    EntryFails sound name earlier ws i .duplicate

section
variable {α : Type} {sound : Word → Word → Bool} {name : Word → α}

theorem entryNew_zero {earlier : List α} {w v : Word} {ws : List Word} :
    entryNew name earlier (w :: v :: ws) 0 ↔ name w ∉ earlier := by
  simp [entryNew]

theorem entryNew_succ {earlier : List α} {w v : Word} {ws : List Word} {i : Nat} :
    entryNew name earlier (w :: v :: ws) (i + 1) ↔ entryNew name (name w :: earlier) ws i := by
  simp only [entryNew, firstWord_succ, List.mem_cons, not_or]
  constructor
  · rintro ⟨hearlier, hbefore⟩
    exact ⟨⟨fun heq => hbefore 0 (Nat.succ_pos _) heq.symm, hearlier⟩, fun j hj => by
      simpa using hbefore (j + 1) (Nat.succ_lt_succ hj)⟩
  · rintro ⟨⟨hfirst, hearlier⟩, hbefore⟩
    refine ⟨hearlier, fun j hj => ?_⟩
    cases j with
    | zero => exact fun heq => hfirst heq.symm
    | succ j => simpa using hbefore j (Nat.lt_of_succ_lt_succ hj)

theorem entryFails_succ {earlier : List α} {w v : Word} {ws : List Word} {i : Nat} {e : PortError}
    (h : EntryFails sound name earlier (w :: v :: ws) (i + 1) e) : EntryFails sound name (name w :: earlier) ws i e := by
  cases h with
  | badField h => exact .badField (by simpa [entrySound] using h)
  | duplicate h hnew => exact .duplicate (by simpa [entrySound] using h) (entryNew_succ.not.mp hnew)

end

section
variable {α β : Type} [DecidableEq α] {sound : Word → Word → Bool} {name : Word → α} {make : Word → Word → β}

/-- The first entry that fails a check gives the error (R135). -/
theorem decodeEntries_error {e : PortError} : ∀ {k n : Nat} {earlier : List α} {ws : List Word}, k < n → 2 * n ≤ ws.length →
    (∀ i < k, entrySound sound ws i ∧ entryNew name earlier ws i) → EntryFails sound name earlier ws k e →
    decodeEntries sound name make n earlier ws = .error e
  | _, n + 1, _, [], _, hlength, _, _ => by simp at hlength
  | _, n + 1, _, [_], _, hlength, _, _ => by simp at hlength; omega
  | 0, n + 1, earlier, w :: v :: ws, _, _, _, hfails => by
    rw [decodeEntries]
    cases hfails with
    | badField h => exact if_pos (Bool.eq_false_iff.mpr h)
    | duplicate h hnew =>
      exact (if_neg (Bool.eq_false_iff.not.mpr (not_not.mpr h))).trans (if_pos (not_not.mp (entryNew_zero.not.mp hnew)))
  | k + 1, n + 1, earlier, w :: v :: ws, hk, hlength, hbefore, hfails => by
    obtain ⟨(hsound : sound w v = true), hnew⟩ := hbefore 0 (Nat.succ_pos k)
    have hrec := decodeEntries_error (Nat.lt_of_succ_lt_succ hk)
      (ws := ws) (by simp only [List.length_cons] at hlength; omega)
      (fun i hi => by simpa [entrySound, entryNew_succ] using hbefore (i + 1) (Nat.succ_lt_succ hi)) (entryFails_succ hfails)
    rw [decodeEntries_cons hsound (entryNew_zero.mp hnew), hrec]
    rfl

/-- Entries that all pass their checks decode, in their order. -/
theorem decodeEntries_all : ∀ {n : Nat} {earlier : List α} {ws : List Word}, 2 * n ≤ ws.length →
    (∀ i < n, entrySound sound ws i ∧ entryNew name earlier ws i) →
    decodeEntries sound name make n earlier ws =
      .ok ((List.range n).map fun i => make (firstWord ws i) (secondWord ws i), ws.drop (2 * n))
  | 0, _, _, _, _ => rfl
  | n + 1, _, [], hlength, _ => by simp at hlength
  | n + 1, _, [_], hlength, _ => by simp at hlength; omega
  | n + 1, earlier, w :: v :: ws, hlength, hall => by
    obtain ⟨(hsound : sound w v = true), hnew⟩ := hall 0 (Nat.succ_pos n)
    have hrec := decodeEntries_all (n := n) (earlier := name w :: earlier) (ws := ws) (by simp only [List.length_cons] at hlength; omega)
      (fun i hi => by simpa [entrySound, entryNew_succ] using hall (i + 1) (Nat.succ_lt_succ hi))
    rw [decodeEntries_cons hsound (entryNew_zero.mp hnew), hrec]
    simp [Except.map, List.range_succ_eq_map, Function.comp_def, Nat.mul_add]

end

/-! ### The checks of R135 in the words' numbers -/

theorem entrySound_channel (body : List Word) (k : Nat) : entrySound channelSound body k ↔ channelChecks body k := by
  simp [entrySound, channelSound, bits, channelChecks, firstWord, secondWord]

theorem channelName_eq_iff (w v : Word) : channelName w = channelName v ↔ w.toNat / 8192 = v.toNat / 8192 := by
  have hw := w.isLt
  have hv := v.isLt
  simp only [channelName, bits, Fin.ext_iff, Fin.ofNat]
  omega

theorem entryNew_channel (body : List Word) (k : Nat) : entryNew channelName [] body k ↔ channelIsNew body k := by
  simp [entryNew, channelIsNew, channelName_eq_iff, firstWord]

theorem firstWord_drop (body : List Word) (n k : Nat) : firstWord (body.drop (2 * n)) k = body.getD (2 * n + 2 * k) 0 := by
  simp [firstWord, List.getD_eq_getElem?_getD]

theorem secondWord_drop (body : List Word) (n k : Nat) :
    secondWord (body.drop (2 * n)) k = body.getD (2 * n + 2 * k + 1) 0 := by
  simp [secondWord, List.getD_eq_getElem?_getD, Nat.add_assoc]

theorem entrySound_sync (body : List Word) (n k : Nat) :
    entrySound syncSound (body.drop (2 * n)) k ↔ syncChecks body n k := by
  simp [entrySound, syncSound, bits, syncChecks, firstWord_drop]

theorem syncName_eq_iff (w v : Word) : syncName w = syncName v ↔ w.toNat / 16384 = v.toNat / 16384 := by
  have hw := w.isLt
  have hv := v.isLt
  simp only [syncName, bits, Fin.ext_iff, Fin.ofNat]
  omega

theorem entryNew_sync (body : List Word) (n k : Nat) :
    entryNew syncName [] (body.drop (2 * n)) k ↔ syncIsNew body n k := by
  simp [entryNew, syncIsNew, syncName_eq_iff, firstWord_drop]

theorem headerChannels_eq (h : Word) : headerChannels h = h.toNat / 16 % 16 := by simp [headerChannels, bits]

theorem headerSyncs_eq (h : Word) : headerSyncs h = h.toNat % 8 := by simp [headerSyncs, bits]

theorem headerLegal_iff (h : Word) : headerLegal h = true ↔ h.toNat / 16 % 16 ≤ 8 ∧ h.toNat % 8 ≤ 4 := by
  simp [headerLegal, headerChannels_eq, headerSyncs_eq]

theorem declaredLength_eq (h : Word) : declaredLength h = 4 + 2 * (h.toNat / 16 % 16) + 2 * (h.toNat % 8) := by
  simp [declaredLength, headerChannels_eq, headerSyncs_eq]

/-- The advance that an advance word spells when it passes its checks. -/
theorem decodeAdvance_checked {w : Word} (h : advanceChecks w) :
    decodeAdvance w = .ok (if w.toNat / 16384 = 0 then .immediate else .trigger (BitVec.ofNat 5 (w.toNat % 32))) := by
  have hw := w.isLt
  have hkind : bits w 15 14 = w.toNat / 16384 := by
    simp only [bits]
    omega
  have hmask : bits w 4 0 = w.toNat % 32 := by simp [bits]
  rcases h with h0 | ⟨h1, hne⟩
  · simp only [decodeAdvance, hkind, h0, if_true]
  · simp only [decodeAdvance, hkind, h1, hmask, hne, if_false, Nat.one_ne_zero]

theorem decodeAdvance_unchecked {w : Word} (h : ¬advanceChecks w) : decodeAdvance w = .error .badField := by
  have hw := w.isLt
  have hkind : bits w 15 14 = w.toNat / 16384 := by
    simp only [bits]
    omega
  have hmask : bits w 4 0 = w.toNat % 32 := by simp [bits]
  obtain ⟨h0, h1⟩ := not_or.mp h
  unfold decodeAdvance
  split
  · next hzero => exact absurd (hkind ▸ hzero) h0
  · next hone => exact if_pos (hmask.trans (not_not.mp fun hne => h1 ⟨hkind ▸ hone, hne⟩))
  · rfl

theorem bits_tag (header : Word) : bits header 15 8 = header.toNat / 256 := by
  have hheader := header.isLt
  simp only [bits]
  omega

theorem channelMade_eq (w v : Word) : channelMade w v =
    { channel := Fin.ofNat 8 (w.toNat / 8192), level := BitVec.ofNat 10 (w.toNat % 1024), width := v } := by
  have hw := w.isLt
  have hname : bits w 15 13 = w.toNat / 8192 := by
    simp only [bits]
    omega
  have hlevel : bits w 9 0 = w.toNat % 1024 := by simp [bits]
  rw [channelMade, channelName, hname, hlevel]

theorem syncMade_eq (w v : Word) : syncMade w v =
    { output := Fin.ofNat 4 (w.toNat / 16384), width := BitVec.ofNat 14 (w.toNat % 16384), delay := v } := by
  have hw := w.isLt
  have hname : bits w 15 14 = w.toNat / 16384 := by
    simp only [bits]
    omega
  have hwidth : bits w 13 0 = w.toNat % 16384 := by simp [bits]
  rw [syncMade, syncName, hname, hwidth]

/-! ### Decoding a record of a given shape -/

section
variable {header advance delay gap : Word} {body : List Word}

theorem decodeRecord_advance_error (hlegal : headerLegal header = true) (h : ¬advanceChecks advance) :
    decodeRecord (header :: advance :: delay :: gap :: body) = .error .badField := by
  simp only [decodeRecord, hlegal, if_true, decodeAdvance_unchecked h]

theorem decodeRecord_channels_error {e : PortError} (hlegal : headerLegal header = true) (h : advanceChecks advance)
    (hchannels : decodeChannels (headerChannels header) [] body = .error e) :
    decodeRecord (header :: advance :: delay :: gap :: body) = .error e := by
  simp only [decodeRecord, hlegal, if_true, decodeAdvance_checked h, hchannels]

theorem decodeRecord_syncs_error {e : PortError} {chs : List ChannelEntry} {rest : List Word}
    (hlegal : headerLegal header = true) (h : advanceChecks advance)
    (hchannels : decodeChannels (headerChannels header) [] body = .ok (chs, rest))
    (hsyncs : decodeSyncs (headerSyncs header) [] rest = .error e) :
    decodeRecord (header :: advance :: delay :: gap :: body) = .error e := by
  simp only [decodeRecord, hlegal, if_true, decodeAdvance_checked h, hchannels, hsyncs]

end

/-- The checks of a record's words, in record order (R135): what decodes, and the error of the first check that fails. -/
theorem decodeRecord_checks {header advance delay gap : Word} {body : List Word} {n m : Nat}
    (hn : header.toNat / 16 % 16 = n) (hm : header.toNat % 8 = m) (hn8 : n ≤ 8) (hm4 : m ≤ 4)
    (hlength : body.length = 2 * n + 2 * m) :
    (¬advanceChecks advance → decodeRecord (header :: advance :: delay :: gap :: body) = .error .badField) ∧
    (∀ k < n, advanceChecks advance → (∀ i < k, channelChecks body i ∧ channelIsNew body i) →
      (¬channelChecks body k → decodeRecord (header :: advance :: delay :: gap :: body) = .error .badField) ∧
      (channelChecks body k → ¬channelIsNew body k →
        decodeRecord (header :: advance :: delay :: gap :: body) = .error .duplicate)) ∧
    (∀ k < m, advanceChecks advance → (∀ i < n, channelChecks body i ∧ channelIsNew body i) →
      (∀ i < k, syncChecks body n i ∧ syncIsNew body n i) →
      (¬syncChecks body n k → decodeRecord (header :: advance :: delay :: gap :: body) = .error .badField) ∧
      (syncChecks body n k → ¬syncIsNew body n k →
        decodeRecord (header :: advance :: delay :: gap :: body) = .error .duplicate)) ∧
    (advanceChecks advance → (∀ i < n, channelChecks body i ∧ channelIsNew body i) →
      (∀ i < m, syncChecks body n i ∧ syncIsNew body n i) →
      decodeRecord (header :: advance :: delay :: gap :: body) = .ok (spelledRecord header advance delay gap body)) := by
  have hlegal : headerLegal header = true := (headerLegal_iff header).mpr ⟨hn ▸ hn8, hm ▸ hm4⟩
  have hcount : headerChannels header = n := (headerChannels_eq header).trans hn
  have hcount' : headerSyncs header = m := (headerSyncs_eq header).trans hm
  have hchannels (h : ∀ i < n, channelChecks body i ∧ channelIsNew body i) :
      decodeChannels (headerChannels header) [] body = .ok
        ((List.range n).map fun i => channelMade (firstWord body i) (secondWord body i), body.drop (2 * n)) := by
    rw [hcount, decodeChannels_eq]
    exact decodeEntries_all (by omega) fun i hi =>
      ⟨(entrySound_channel body i).mpr (h i hi).1, (entryNew_channel body i).mpr (h i hi).2⟩
  have hrest : 2 * m ≤ (body.drop (2 * n)).length := by
    rw [List.length_drop]
    omega
  refine ⟨decodeRecord_advance_error hlegal, fun k hk hadvance hbefore => ?_, fun k hk hadvance hall hbefore => ?_,
    fun hadvance hall hall' => ?_⟩
  · have herror {e : PortError} (hfails : EntryFails channelSound channelName [] body k e) :
        decodeRecord (header :: advance :: delay :: gap :: body) = .error e :=
      decodeRecord_channels_error hlegal hadvance <| by
        rw [decodeChannels_eq, hcount]
        exact decodeEntries_error hk (by omega) (fun i hi => ⟨(entrySound_channel body i).mpr (hbefore i hi).1,
          (entryNew_channel body i).mpr (hbefore i hi).2⟩) hfails
    exact ⟨fun h => herror (.badField ((entrySound_channel body k).not.mpr h)),
      fun h hnew => herror (.duplicate ((entrySound_channel body k).mpr h) ((entryNew_channel body k).not.mpr hnew))⟩
  · have herror {e : PortError} (hfails : EntryFails syncSound syncName [] (body.drop (2 * n)) k e) :
        decodeRecord (header :: advance :: delay :: gap :: body) = .error e :=
      decodeRecord_syncs_error hlegal hadvance (hchannels hall) <| by
        rw [decodeSyncs_eq, hcount']
        exact decodeEntries_error hk hrest (fun i hi => ⟨(entrySound_sync body n i).mpr (hbefore i hi).1,
          (entryNew_sync body n i).mpr (hbefore i hi).2⟩) hfails
    exact ⟨fun h => herror (.badField ((entrySound_sync body n k).not.mpr h)),
      fun h hnew => herror (.duplicate ((entrySound_sync body n k).mpr h) ((entryNew_sync body n k).not.mpr hnew))⟩
  · have hsyncs : decodeSyncs (headerSyncs header) [] (body.drop (2 * n)) = .ok ((List.range m).map fun i =>
        syncMade (firstWord (body.drop (2 * n)) i) (secondWord (body.drop (2 * n)) i), (body.drop (2 * n)).drop (2 * m)) := by
      rw [hcount', decodeSyncs_eq]
      exact decodeEntries_all hrest fun i hi =>
        ⟨(entrySound_sync body n i).mpr (hall' i hi).1, (entryNew_sync body n i).mpr (hall' i hi).2⟩
    simp only [decodeRecord, hlegal, if_true, decodeAdvance_checked hadvance, hchannels hall, hsyncs, spelledRecord, hn, hm,
      bits_tag, channelMade_eq, syncMade_eq, firstWord_drop, secondWord_drop]
    rfl

/-! ### One word of a step load session -/

theorem exec_stepWord {s : State} (hs : s.inReset = false) (hkind : s.port.kind = .load) (htable : s.port.table = .steps)
    (w : Word) : exec (.tpDataWrite w) s = .next (stepWord w s) := by
  rw [exec_tpDataWrite hs]
  simp only [writeTpData, hkind, htable]

section
variable {s : State} {w header : Word} {ws : List Word}

theorem stepWord_header (hnext : s.port.next < 128) (hempty : s.port.assembly = []) : stepWord w s = headerWord w s := by
  rw [stepWord, if_neg (Nat.not_le.mpr hnext), hempty]

theorem stepWord_assembles (hnext : s.port.next < 128) (hassembly : s.port.assembly = header :: ws)
    (hshort : ws.length + 2 < declaredLength header) :
    stepWord w s =
      { s with port := { s.port with assembly := header :: ws ++ [w], wordPos := ws.length + 1 + 1 } } := by
  rw [stepWord, if_neg (Nat.not_le.mpr hnext), hassembly]
  exact if_pos hshort

theorem stepWord_completes (hnext : s.port.next < 128) (hassembly : s.port.assembly = header :: ws)
    (hlast : declaredLength header ≤ ws.length + 2) : stepWord w s = completeRecord (header :: ws ++ [w]) s := by
  rw [stepWord, if_neg (Nat.not_le.mpr hnext), hassembly]
  exact if_neg (Nat.not_lt.mpr hlast)

theorem completeRecord_ok {i : Fin 128} {r : StepRecord} (hnext : s.port.next = i.val) (h : decodeRecord ws = .ok r) :
    completeRecord ws s = { setStaging { stagingBank s with steps := (stagingBank s).steps.set i (some r) } s with
      port := { s.port with assembly := [], wordPos := 0, next := i.val + 1 } } := by
  simp only [completeRecord, h, storeStep, hnext, i.isLt, dif_pos]
  rfl

theorem completeRecord_error {e : PortError} (h : decodeRecord ws = .error e) :
    completeRecord ws s = { s with
      port := { s.port with
        assembly := []
        wordPos := 0
        next := s.port.next + 1
        lastError := e
        errorIndex := word s.port.next }
      status := { s.status with flags := s.status.flags ||| portErrorFlag } } := by
  simp only [completeRecord, h]
  rfl

end

/-- Settles O42: each word of a step load session, and the checks of a record's words in their order. -/
theorem stepLoadWords : Obligations.StepLoadWords := by
  refine ⟨fun s w hs hkind => ?_, fun s w hs hkind htable => ?_, fun _ _ _ _ _ _ _ => decodeRecord_checks⟩
  · rw [exec_tpDataWrite hs]
    simp only [writeTpData, hkind]
  rw [exec_stepWord hs hkind htable]
  refine ⟨fun hnext hempty hlegal => ?_, fun hnext hempty hlegal => ?_, fun header ws hnext hassembly hshort => ?_,
    fun header ws e hnext hassembly hlast herror => ?_, fun header ws i r hnext hassembly hlast hok => ?_, fun hend => ?_⟩
  · rw [stepWord_header hnext hempty, headerWord, if_pos ((headerLegal_iff w).mpr hlegal)]
  · rw [stepWord_header hnext hempty, headerWord, if_neg ((headerLegal_iff w).not.mpr hlegal)]
    rfl
  · rw [stepWord_assembles hnext hassembly (declaredLength_eq header ▸ hshort)]
  · rw [stepWord_completes hnext hassembly (declaredLength_eq header ▸ hlast), completeRecord_error herror]
  · rw [stepWord_completes (hnext ▸ i.isLt) hassembly (declaredLength_eq header ▸ hlast), completeRecord_ok hnext hok]
  · rw [stepWord, if_pos hend, pastEnd_eq]

/-! ### The words of a whole record -/

theorem runAll_cons {c : Instr} {cs : List Instr} {s t : State} (h : exec c s = .next t) :
    runAll (c :: cs) s = runAll cs t := by
  rw [runAll, h]

/-- The words behind a record's header, written one after the other: all but the last join the assembly, and the last one
stores the record. -/
theorem runAll_assembles {r : StepRecord} {i : Fin 128} (hwf : r.wf = true) : ∀ {rest ws : List Word} {s : State},
    s.inReset = false → s.port.kind = .load → s.port.table = .steps → s.port.next = i.val →
    s.port.assembly = encodeHeader r :: ws → rest ≠ [] → encodeHeader r :: ws ++ rest = encodeRecord r →
    runAll (rest.map .tpDataWrite) s = .next { setStaging { stagingBank s with
        steps := (stagingBank s).steps.set i (some r) } s with
      port := { s.port with assembly := [], wordPos := 0, next := i.val + 1 } }
  | [], _, _, _, _, _, _, _, hne, _ => absurd rfl hne
  | [w], ws, s, hs, hkind, htable, hnext, hassembly, _, hwords => by
    have hlast : declaredLength (encodeHeader r) ≤ ws.length + 2 := by
      rw [declaredLength_encodeHeader hwf, ← hwords]
      simp
    have hdecoded : decodeRecord (encodeHeader r :: ws ++ [w]) = .ok r := by
      rw [hwords]
      simpa using decodeRecord_encode hwf []
    rw [List.map_singleton, runAll_cons (exec_stepWord hs hkind htable w),
      stepWord_completes (hnext ▸ i.isLt) hassembly hlast, completeRecord_ok hnext hdecoded, runAll]
  | w :: v :: rest, ws, s, hs, hkind, htable, hnext, hassembly, _, hwords => by
    have hshort : ws.length + 2 < declaredLength (encodeHeader r) := by
      rw [declaredLength_encodeHeader hwf, ← hwords]
      simp
    rw [List.map_cons, runAll_cons (exec_stepWord hs hkind htable w),
      stepWord_assembles (hnext ▸ i.isLt) hassembly hshort]
    exact runAll_assembles hwf (ws := ws ++ [w]) hs hkind htable hnext rfl (List.cons_ne_nil _ _) (by simpa using hwords)

/-- Settles O41: the header begins the record, and the words behind it complete it. -/
theorem streamedRecordIsStored : Obligations.StreamedRecordIsStored := by
  intro s r i hs hwf hkind htable hnext hpos hempty
  obtain ⟨rest, hne, hwords⟩ : ∃ rest, rest ≠ [] ∧ [encodeHeader r] ++ rest = encodeRecord r :=
    ⟨_, List.cons_ne_nil _ _, rfl⟩
  rw [← hwords, List.map_append, List.map_singleton, List.singleton_append,
    runAll_cons (exec_stepWord hs hkind htable (encodeHeader r)), stepWord_header (hnext ▸ i.isLt) hempty, headerWord,
    if_pos (headerLegal_encodeHeader hwf)]
  have hport : { s.port with assembly := [], wordPos := 0, next := i.val + 1 } = { s.port with next := i.val + 1 } := by
    rw [← hempty, ← hpos]
  refine (runAll_assembles (i := i) (s := { s with port := { s.port with assembly := [encodeHeader r], wordPos := 1 } })
    hwf hs hkind htable hnext rfl hne hwords).trans ?_
  rw [← hport]
  rfl

end Sys2Proof.Proofs
end

section
/-! The register window: writes at the other addresses (O53), and what the status registers and the pins show (O9). -/
namespace Sys2Proof.Proofs
open Sys2Proof.Machine

/-! ### What a register of the window does not read -/

theorem readRegister_released {s : State} (h : s.inReset = false) (addr : BitVec 6) :
    readRegister addr s = registerWord addr s := by
  rw [readRegister, h, if_neg Bool.false_ne_true]

theorem exec_registerWrite {s : State} (h : s.inReset = false) (addr : BitVec 6) (w : Word) :
    exec (.registerWrite addr w) s = .next (writeRegister addr w s) :=
  congrArg Host.Outcome.next (outOfReset_released h)

/-- ARG0 to ARG3 stand at 0x05 to 0x08. -/
theorem writeRegister_arg {addr : BitVec 6} {i : Fin 4} (h : addr.toNat = 5 + i.val) (w : Word) (s : State) :
    writeRegister addr w s = writeArg i w s := by
  rw [writeRegister, h]
  fin_cases i <;> rfl

theorem registerWord_arg {addr : BitVec 6} {i : Fin 4} (h : addr.toNat = 5 + i.val) (s : State) :
    registerWord addr s = s.cmd.arg[i] := by
  rw [registerWord, h]
  fin_cases i <;> rfl

theorem registerWord_setArgs {addr : BitVec 6} (h : addr.toNat < 5 ∨ 8 < addr.toNat) (s : State) (args : Vector Word 4) :
    registerWord addr { s with cmd := { s.cmd with arg := args } } = registerWord addr s := by
  have haddr := addr.isLt
  unfold registerWord
  rcases h with h | h <;> interval_cases addr.toNat <;> rfl

/-- HOLDOFF0 to HOLDOFF3 stand at 0x13 to 0x16. -/
theorem writeRegister_holdoff {addr : BitVec 6} {i : Fin 4} (h : addr.toNat = 19 + i.val) (w : Word) (s : State) :
    writeRegister addr w s = writeHoldoff i w s := by
  rw [writeRegister, h]
  fin_cases i <;> rfl

theorem registerWord_holdoff {addr : BitVec 6} {i : Fin 4} (h : addr.toNat = 19 + i.val) (s : State) :
    registerWord addr s = (s.triggers.inputs[i]).holdoff := by
  rw [registerWord, h]
  fin_cases i <;> rfl

theorem writeHoldoff_select (i j : Fin 4) (w : Word) (s : State) :
    ((writeHoldoff i w s).triggers.inputs[j]).select = (s.triggers.inputs[j]).select := by
  by_cases hij : i = j
  · subst hij
    simp [writeHoldoff]
  · have hne : i.val ≠ j.val := Fin.val_ne_of_ne hij
    simp [writeHoldoff, Vector.getElem_set_ne _ _ hne]

/-- TRIG_CONFIG shows the selects of the four inputs. -/
theorem trigConfig_eq (s : State) : trigConfig s =
    word ((s.triggers.inputs[(0 : Fin 4)]).select.code + (s.triggers.inputs[(1 : Fin 4)]).select.code * 4 +
      (s.triggers.inputs[(2 : Fin 4)]).select.code * 16 + (s.triggers.inputs[(3 : Fin 4)]).select.code * 64) := rfl

theorem trigConfig_writeHoldoff (i : Fin 4) (w : Word) (s : State) : trigConfig (writeHoldoff i w s) = trigConfig s := by
  simp only [trigConfig_eq, writeHoldoff_select]

theorem registerWord_writeHoldoff {addr : BitVec 6} (h : addr.toNat < 19 ∨ 22 < addr.toNat) (i : Fin 4) (w : Word)
    (s : State) : registerWord addr (writeHoldoff i w s) = registerWord addr s := by
  have haddr := addr.isLt
  by_cases htrig : addr.toNat = 18
  · simp only [registerWord, htrig, trigConfig_writeHoldoff]
  unfold registerWord
  have h' : addr.toNat < 18 ∨ 22 < addr.toNat := by omega
  rcases h' with h | h <;> interval_cases addr.toNat <;> rfl

theorem registerWord_writeLateTolerance {addr : BitVec 6} (h : addr.toNat ≠ 23) (w : Word) (s : State) :
    registerWord addr (writeLateTolerance w s) = registerWord addr s := by
  have haddr := addr.isLt
  unfold registerWord
  rcases Nat.lt_or_gt_of_ne h with h | h <;> interval_cases addr.toNat <;> rfl

theorem registerWord_writeHoldTimeout {addr : BitVec 6} (h : addr.toNat ≠ 24) (w : Word) (s : State) :
    registerWord addr (writeHoldTimeout w s) = registerWord addr s := by
  have haddr := addr.isLt
  unfold registerWord
  rcases Nat.lt_or_gt_of_ne h with h | h <;> interval_cases addr.toNat <;> rfl

theorem toNat_ne_of_ne {n : Nat} {a b : BitVec n} (h : a ≠ b) : a.toNat ≠ b.toNat := fun heq => h (BitVec.eq_of_toNat_eq heq)

theorem read_other_arg {addr other : BitVec 6} {i : Fin 4} (h : addr.toNat = 5 + i.val) (hne : other ≠ addr) (w : Word)
    (s : State) : registerWord other (writeArg i w s) = registerWord other s := by
  by_cases hblock : other.toNat < 5 ∨ 8 < other.toNat
  · exact registerWord_setArgs hblock s _
  obtain ⟨j, hj⟩ : ∃ j : Fin 4, other.toNat = 5 + j.val := ⟨⟨other.toNat - 5, by omega⟩, by simp only; omega⟩
  have hij : i.val ≠ j.val := fun heq => toNat_ne_of_ne hne (hj.trans (heq ▸ h.symm))
  rw [registerWord_arg hj, registerWord_arg hj, writeArg]
  exact Vector.getElem_set_ne i.isLt j.isLt hij

theorem read_other_holdoff {addr other : BitVec 6} {i : Fin 4} (h : addr.toNat = 19 + i.val) (hne : other ≠ addr) (w : Word)
    (s : State) : registerWord other (writeHoldoff i w s) = registerWord other s := by
  by_cases hblock : other.toNat < 19 ∨ 22 < other.toNat
  · exact registerWord_writeHoldoff hblock i w s
  obtain ⟨j, hj⟩ : ∃ j : Fin 4, other.toNat = 19 + j.val := ⟨⟨other.toNat - 19, by omega⟩, by simp only; omega⟩
  have hij : i.val ≠ j.val := fun heq => toNat_ne_of_ne hne (hj.trans (heq ▸ h.symm))
  rw [registerWord_holdoff hj, registerWord_holdoff hj, writeHoldoff]
  exact congrArg TriggerInput.holdoff (Vector.getElem_set_ne i.isLt j.isLt hij)

/-! ### TRIG_CONFIG -/

theorem edgeSelectOf_code {n : Nat} (h : n < 4) : (edgeSelectOf n).code = n := by
  interval_cases n <;> rfl

/-- The selects that a write to TRIG_CONFIG leaves read back as the word's low byte. -/
theorem trigConfig_writeTrigConfig (w : Word) (s : State) : trigConfig (writeTrigConfig w s) = w &&& 0x00FF := by
  have hw := w.isLt
  have hcode (i : Fin 4) : ((writeTrigConfig w s).triggers.inputs[i]).select.code = bits w (2 * i.val + 1) (2 * i.val) := by
    have hlt := bits_lt w (2 * i.val + 1) (2 * i.val)
    rw [show 2 * i.val + 1 + 1 - 2 * i.val = 2 by omega] at hlt
    simpa [writeTrigConfig] using edgeSelectOf_code hlt
  refine BitVec.eq_of_toNat_eq ?_
  have hmask : (w &&& 0x00FF).toNat = w.toNat % 256 := Nat.and_two_pow_sub_one_eq_mod w.toNat 8
  rw [hmask, trigConfig_eq, hcode, hcode, hcode, hcode]
  simp [bits, word]
  omega

/-! ### O53 -/

/-- The registers that take every value. -/
theorem plainAddresses {addr : BitVec 6}
    (h : addr ∈ ([0x05, 0x06, 0x07, 0x08, 0x13, 0x14, 0x15, 0x16, 0x17, 0x18] : List (BitVec 6))) :
    (∃ i : Fin 4, addr.toNat = 5 + i.val) ∨ (∃ i : Fin 4, addr.toNat = 19 + i.val) ∨ addr = 0x17 ∨ addr = 0x18 := by
  revert addr
  decide

/-- The read-only registers and the unused addresses. -/
theorem ignoresWrites {addr : BitVec 6} {w : Word} {s : State}
    (h : addr ∈ ([0x00, 0x01, 0x03, 0x04, 0x0B, 0x0C, 0x0D, 0x0E, 0x0F, 0x11, 0x1B, 0x20, 0x22, 0x24, 0x25,
        0x26, 0x27, 0x28, 0x29, 0x2A, 0x2B, 0x2C, 0x2D, 0x2E, 0x2F, 0x31, 0x32, 0x33, 0x34, 0x36, 0x37, 0x38, 0x39, 0x3A,
        0x3B, 0x3C, 0x3D, 0x3E, 0x3F] : List (BitVec 6))) : writeRegister addr w s = s := by
  fin_cases h <;> rfl

/-- Settles O53: each register's own write, and the addresses that ignore one. -/
theorem registerWrites : Obligations.RegisterWrites := by
  intro s w hs
  simp only [exec_registerWrite hs]
  refine ⟨fun addr haddr => ⟨_, rfl, ?_⟩, fun i addr haddr => congrArg _ (writeRegister_arg haddr w s),
    fun i addr haddr => congrArg _ (writeRegister_holdoff haddr w s), rfl, rfl, ⟨_, rfl, ?_, fun i => ?_, rfl⟩,
    rfl, rfl, rfl, rfl, rfl, fun addr haddr => ?_⟩
  · rcases plainAddresses haddr with ⟨i, hi⟩ | ⟨i, hi⟩ | rfl | rfl
    · rw [writeRegister_arg hi]
      simp only [readRegister_released hs, readRegister_released (s := writeArg i w s) hs]
      exact ⟨(registerWord_arg hi _).trans (Vector.getElem_set_self _), rfl, fun other hne => read_other_arg hi hne w s⟩
    · rw [writeRegister_holdoff hi]
      simp only [readRegister_released hs, readRegister_released (s := writeHoldoff i w s) hs]
      exact ⟨(registerWord_holdoff hi _).trans (congrArg TriggerInput.holdoff (Vector.getElem_set_self _)), rfl,
        fun other hne => read_other_holdoff hi hne w s⟩
    · rw [show writeRegister 0x17 w s = writeLateTolerance w s from rfl]
      simp only [readRegister_released hs, readRegister_released (s := writeLateTolerance w s) hs]
      exact ⟨rfl, rfl, fun other hne => registerWord_writeLateTolerance (toNat_ne_of_ne hne) w s⟩
    · rw [show writeRegister 0x18 w s = writeHoldTimeout w s from rfl]
      simp only [readRegister_released hs, readRegister_released (s := writeHoldTimeout w s) hs]
      exact ⟨rfl, rfl, fun other hne => registerWord_writeHoldTimeout (toNat_ne_of_ne hne) w s⟩
  · exact (readRegister_released (s := writeTrigConfig w s) hs 0x12).trans (trigConfig_writeTrigConfig w s)
  · simp [writeRegister, writeTrigConfig]
  · rw [ignoresWrites haddr]

end Sys2Proof.Proofs
end

section
/-! What the status registers and the pins show (O9). Each packed register is a sum of fields, each below the unit of the
next; the field at a place of 10.3 is then read off by arithmetic. -/
namespace Sys2Proof.Proofs
open Sys2Proof.Machine

/-! ### Fields of a packed word -/

theorem flagNat_le (b : Bool) : flagNat b ≤ 1 := by cases b <;> decide

theorem bit_iff {w : Word} {i : Nat} {b : Bool} (h : w.toNat / 2 ^ i % 2 = flagNat b) : bit w i = true ↔ b = true := by
  rw [flagNat_injective ((flagNat_bit w i).trans h)]

theorem bit_eq_false {w : Word} {i : Nat} (h : w.toNat / 2 ^ i % 2 = 0) : bit w i = false :=
  flagNat_injective ((flagNat_bit w i).trans h)

theorem booting_iff (s : State) : booting s = true ↔ s.store.boot ≠ .done := bne_iff_ne

theorem storeBusy_iff (s : State) : storeBusy s = true ↔ s.store.job ≠ .idle := bne_iff_ne

theorem kindCode_eq (k : SessionKind) : k.code = sessionCode k := by cases k <;> rfl

theorem kindCode_le (k : SessionKind) : k.code ≤ 3 := by cases k <;> decide

theorem seqCode_eq (q : SeqState) : q.code = stateCode q := by cases q <;> rfl

theorem seqCode_le (q : SeqState) : q.code ≤ 6 := by cases q <;> decide

theorem holdCode_eq (s : State) : holdCode s = shownHold s := by
  unfold holdCode shownHold
  cases s.seq.state <;> cases s.seq.hold <;> rfl

theorem holdCode_le (s : State) : holdCode s ≤ 2 := by
  rw [holdCode]
  cases s.seq.hold <;> split_ifs <;> decide

/-! ### DEVICE_STATUS, SEQ_INFO and TP_STATUS -/

theorem deviceStatus_fields (s : State) :
    (bit (deviceStatus s) 15 = true ↔ s.store.boot ≠ .done) ∧ (bit (deviceStatus s) 10 = true ↔ s.store.job ≠ .idle) ∧
    (bit (deviceStatus s) 7 = true ↔ s.tables.incomplete = true) ∧
    (bit (deviceStatus s) 6 = true ↔ s.tables.commitPending = true) ∧
    bits (deviceStatus s) 9 8 = sessionCode s.port.kind ∧ bits (deviceStatus s) 5 4 = shownHold s ∧
    bits (deviceStatus s) 2 0 = stateCode s.seq.state ∧ bits (deviceStatus s) 14 11 = 0 ∧
    bit (deviceStatus s) 3 = false := by
  have hboot := flagNat_le (booting s)
  have hbusy := flagNat_le (storeBusy s)
  have hkind := kindCode_le s.port.kind
  have hincomplete := flagNat_le s.tables.incomplete
  have hpending := flagNat_le s.tables.commitPending
  have hhold := holdCode_le s
  have hstate := seqCode_le s.seq.state
  have hw : (deviceStatus s).toNat = _ := toNat_word (by omega)
  rw [← booting_iff, ← storeBusy_iff, ← kindCode_eq, ← holdCode_eq, ← seqCode_eq]
  refine ⟨bit_iff ?_, bit_iff ?_, bit_iff ?_, bit_iff ?_, ?_, ?_, ?_, ?_, bit_eq_false ?_⟩ <;>
    simp only [bits, hw] <;> omega

theorem seqInfo_fields {s : State} (hlow : 1 ≤ s.seq.repetition) (hhigh : s.seq.repetition ≤ 16) :
    (bit (seqInfo s) 14 = true ↔ s.seq.pauseRequest = true) ∧ bits (seqInfo s) 13 10 + 1 = s.seq.repetition ∧
    bits (seqInfo s) 9 8 = s.seq.mode.code ∧ bits (seqInfo s) 7 5 = s.seq.stopReason.code ∧
    bits (seqInfo s) 4 3 = shownHold s ∧ bits (seqInfo s) 2 0 = stateCode s.seq.state ∧ bit (seqInfo s) 15 = false := by
  have hpause := flagNat_le s.seq.pauseRequest
  have hmode : s.seq.mode.code ≤ 3 := by cases s.seq.mode <;> decide
  have hreason : s.seq.stopReason.code ≤ 6 := by cases s.seq.stopReason <;> decide
  have hhold := holdCode_le s
  have hstate := seqCode_le s.seq.state
  have hw : (seqInfo s).toNat = _ := toNat_word (by omega)
  rw [← holdCode_eq, ← seqCode_eq]
  refine ⟨bit_iff ?_, ?_, ?_, ?_, ?_, ?_, bit_eq_false ?_⟩ <;> simp only [bits, hw] <;> omega

theorem and_decide_iff (p q : Prop) [Decidable p] [Decidable q] : (decide p && decide q) = true ↔ p ∧ q := by simp

/-- The table and the bank of TP_STATUS, which read 0 with no session open (R184), as flags. -/
theorem sessionTable_code (s : State) :
    (if s.port.kind = .none then 0 else s.port.bank.code * 8 + s.port.table.code * 4) =
      flagNat (s.port.kind ≠ .none && s.port.bank = .staging) * 8 +
        flagNat (s.port.kind ≠ .none && s.port.table = .order) * 4 := by
  cases s.port.kind <;> cases s.port.bank <;> cases s.port.table <;> rfl

theorem tpStatus_fields {s : State} (hpos : s.port.wordPos ≤ 27) :
    bits (tpStatus s) 12 9 = s.port.lastError.code ∧ bits (tpStatus s) 8 4 = s.port.wordPos ∧
    (bit (tpStatus s) 3 = true ↔ s.port.kind ≠ .none ∧ s.port.bank = .staging) ∧
    (bit (tpStatus s) 2 = true ↔ s.port.kind ≠ .none ∧ s.port.table = .order) ∧
    bits (tpStatus s) 1 0 = sessionCode s.port.kind ∧ bits (tpStatus s) 15 13 = 0 := by
  have herror : s.port.lastError.code ≤ 8 := by cases s.port.lastError <;> decide
  have hbank := flagNat_le (s.port.kind ≠ .none && s.port.bank = .staging)
  have htable := flagNat_le (s.port.kind ≠ .none && s.port.table = .order)
  have hkind := kindCode_le s.port.kind
  have hw : (tpStatus s).toNat = s.port.lastError.code * 512 + s.port.wordPos * 16 +
      (flagNat (s.port.kind ≠ .none && s.port.bank = .staging) * 8 +
        flagNat (s.port.kind ≠ .none && s.port.table = .order) * 4) + s.port.kind.code := by
    rw [← sessionTable_code]
    refine toNat_word ?_
    rw [sessionTable_code]
    omega
  rw [← kindCode_eq]
  refine ⟨?_, ?_, (bit_iff ?_).trans (and_decide_iff _ _), (bit_iff ?_).trans (and_decide_iff _ _), ?_, ?_⟩ <;> simp only [bits, hw] <;> omega

/-! ### The masks of the channels, SYNC_CONFIG and REC_COUNT -/

theorem bit_maskWord (m : ChannelMask) (i : Fin 8) : bit (word m.toNat) i.val = inMask m i := by
  have hi : i.val < 16 := by omega
  simp [bit, word, inMask, hi]

theorem bits_maskWord (m : ChannelMask) : bits (word m.toNat) 15 8 = 0 := by
  have hm := m.isLt
  have hw := toNat_word (n := m.toNat) (by omega)
  simp only [bits, hw]
  omega

/-- Four flags as a number of four bits. -/
def nibble (b : Fin 4 → Bool) : Nat := flagNat (b 0) + 2 * flagNat (b 1) + 4 * flagNat (b 2) + 8 * flagNat (b 3)

theorem nibble_lt (b : Fin 4 → Bool) : nibble b < 16 := by
  have h0 := flagNat_le (b 0)
  have h1 := flagNat_le (b 1)
  have h2 := flagNat_le (b 2)
  have h3 := flagNat_le (b 3)
  unfold nibble
  omega

theorem nibble_bit (b : Fin 4 → Bool) (i : Fin 4) : nibble b / 2 ^ i.val % 2 = flagNat (b i) := by
  have h0 := flagNat_le (b 0)
  have h1 := flagNat_le (b 1)
  have h2 := flagNat_le (b 2)
  have h3 := flagNat_le (b 3)
  unfold nibble
  fin_cases i <;> simp <;> omega

theorem syncConfig_toNat (s : State) : (syncConfig s).toNat = nibble (fun i => (s.syncs[i]).polarity = .activeLow) +
    16 * nibble (fun i => (s.syncs[i]).enabled) + 256 * nibble (fun i => (s.syncs[i]).pulse != .idle) := by
  have hlow := nibble_lt fun i => (s.syncs[i]).polarity = .activeLow
  have henabled := nibble_lt fun i => (s.syncs[i]).enabled
  have hbusy := nibble_lt fun i => (s.syncs[i]).pulse != .idle
  rw [← toNat_word (n := nibble _ + 16 * nibble _ + 256 * nibble _) (by omega), syncConfig]
  refine congrArg (fun n => (word n).toNat) ?_
  simp only [syncConfigBits, nibble]
  norm_num
  ring

theorem syncConfig_fields (s : State) :
    (∀ i : Fin 4, (bit (syncConfig s) i.val = true ↔ (s.syncs[i]).polarity = .activeLow) ∧
      (bit (syncConfig s) (4 + i.val) = true ↔ (s.syncs[i]).enabled = true) ∧
      (bit (syncConfig s) (8 + i.val) = true ↔ (s.syncs[i]).pulse ≠ .idle)) ∧ bits (syncConfig s) 15 12 = 0 := by
  have hlow := nibble_lt fun i => (s.syncs[i]).polarity = .activeLow
  have henabled := nibble_lt fun i => (s.syncs[i]).enabled
  have hbusy := nibble_lt fun i => (s.syncs[i]).pulse != .idle
  have hw := syncConfig_toNat s
  refine ⟨fun i => ⟨(bit_iff (b := decide _) ?_).trans decide_eq_true_iff, bit_iff ?_, (bit_iff ?_).trans bne_iff_ne⟩, ?_⟩
  · rw [hw, ← nibble_bit (fun i => (s.syncs[i]).polarity = .activeLow) i]
    fin_cases i <;> simp only <;> omega
  · rw [hw, ← nibble_bit (fun i => (s.syncs[i]).enabled) i]
    fin_cases i <;> simp only <;> omega
  · rw [hw, ← nibble_bit (fun i => (s.syncs[i]).pulse != .idle) i]
    fin_cases i <;> simp only <;> omega
  · simp only [bits, hw]
    omega

theorem recCount_fields {s : State} (h : s.records.queue.length ≤ 32) :
    bits (recCount s) 5 0 = s.records.queue.length ∧ (bit (recCount s) 8 = true ↔ s.records.reserved = true) ∧
    bits (recCount s) 7 6 = 0 ∧ bits (recCount s) 15 9 = 0 := by
  have hreserved := flagNat_le s.records.reserved
  have hw : (recCount s).toNat = _ := toNat_word (by omega)
  refine ⟨?_, bit_iff ?_, ?_, ?_⟩ <;> simp only [bits, hw] <;> omega

theorem statusWord_eq (s : State) : statusWord s =
    if s.records.threshold.toNat ≤ s.records.queue.length then s.status.flags ||| 0x8000 else s.status.flags := by
  by_cases h : s.records.threshold.toNat ≤ s.records.queue.length <;> simp [statusWord, recordReady, h]

/-! ### STORE_STATUS, STORE_DIR and BOOT_INFO -/

theorem phaseCode_le (j : StoreJob) : j.phaseCode ≤ 3 := by
  unfold StoreJob.phaseCode
  split <;> decide

theorem storeStatus_fields (s : State) :
    (bit (storeStatus s) 15 = true ↔ s.store.job ≠ .idle) ∧ bits (storeStatus s) 11 9 = s.store.outcome.code ∧
    (bit (storeStatus s) 8 = true ↔ s.store.abortPending = true) ∧ bits (storeStatus s) 7 5 = s.store.slot.toNat ∧
    bits (storeStatus s) 4 3 = s.store.job.phaseCode ∧ bits (storeStatus s) 2 0 = s.store.operation.code ∧
    bits (storeStatus s) 14 12 = 0 := by
  have hbusy := flagNat_le (storeBusy s)
  have houtcome : s.store.outcome.code ≤ 4 := by cases s.store.outcome <;> decide
  have habort := flagNat_le s.store.abortPending
  have hslot := s.store.slot.isLt
  have hphase := phaseCode_le s.store.job
  have hoperation : s.store.operation.code ≤ 4 := by cases s.store.operation <;> decide
  have hw : (storeStatus s).toNat = _ := toNat_word (by omega)
  rw [← storeBusy_iff]
  refine ⟨bit_iff ?_, ?_, bit_iff ?_, ?_, ?_, ?_, ?_⟩ <;> simp only [bits, hw] <;> omega

theorem slotCode_le (s : State) (i : Fin 6) : slotCode s i ≤ 3 := by
  rw [slotCode]
  cases (s.store.directory[i]).state <;> decide

theorem storeDir_fields (s : State) :
    (∀ i : Fin 6, bits (storeDir s) (2 * i.val + 1) (2 * i.val) = slotCode s i) ∧ bits (storeDir s) 15 12 = 0 := by
  have h0 := slotCode_le s 0
  have h1 := slotCode_le s 1
  have h2 := slotCode_le s 2
  have h3 := slotCode_le s 3
  have h4 := slotCode_le s 4
  have h5 := slotCode_le s 5
  have hw : (storeDir s).toNat = _ := toNat_word (by omega)
  refine ⟨fun i => ?_, by simp only [bits, hw]; omega⟩
  fin_cases i <;> simp [bits, hw] <;> omega

theorem bootInfo_fields (s : State) :
    bits (bootInfo s) 9 8 = autorunCode s.store.current.autorun ∧
    bits (bootInfo s) 6 4 = bootSlotCode s.store.current.bootSlot ∧ bits (bootInfo s) 2 0 = s.store.bootOutcome.code ∧
    bits (bootInfo s) 15 10 = 0 ∧ bit (bootInfo s) 7 = false ∧ bit (bootInfo s) 3 = false := by
  have hautorun : autorunCode s.store.current.autorun ≤ 2 := by cases s.store.current.autorun <;> decide
  have hslot : bootSlotCode s.store.current.bootSlot ≤ 7 := by
    cases s.store.current.bootSlot with
    | none => exact Nat.le_refl 7
    | some slot => exact slot.isLt.le.trans (by decide)
  have houtcome : s.store.bootOutcome.code ≤ 5 := by cases s.store.bootOutcome <;> decide
  have hw : (bootInfo s).toNat = _ := toNat_word (by omega)
  refine ⟨?_, ?_, ?_, ?_, bit_eq_false ?_, bit_eq_false ?_⟩ <;> simp only [bits, hw] <;> omega

/-! ### The pins -/

theorem gatePin_released {s : State} (h : s.inReset = false) (n : Fin 8) :
    gatePin n s = (s.channels.channel[n]).gate.isSome := by
  rw [gatePin, h, Bool.not_false, Bool.true_and]

theorem levelPin_of_gate {s : State} (h : s.inReset = false) {n : Fin 8} {g : OpenGate}
    (hg : (s.channels.channel[n]).gate = some g) : levelPin n s = g.level := by
  simp only [levelPin, h, Bool.false_eq_true, if_false, hg]

theorem levelPin_of_dark {s : State} (h : s.inReset = false) {n : Fin 8} (hg : (s.channels.channel[n]).gate = none) :
    levelPin n s = 0 := by
  simp only [levelPin, h, Bool.false_eq_true, if_false, hg]

theorem isActive_iff (p : Pulse) : p.isActive = true ↔ ∃ kind finish, p = .active kind finish := by
  cases p <;> simp [Pulse.isActive]

theorem ite_not_iff {p : Prop} [Decidable p] {b : Bool} : (if p then b else !b) = true ↔ (p ↔ b = true) := by
  by_cases hp : p <;> simp [hp]

theorem syncPin_iff {s : State} (h : s.inReset = false) (i : Fin 4) : syncPin i s = true ↔
    ((s.syncs[i]).polarity = .activeHigh ↔
      (s.syncs[i]).enabled = true ∧ ∃ kind finish, (s.syncs[i]).pulse = .active kind finish) := by
  rw [← isActive_iff, ← Bool.and_eq_true, ← ite_not_iff]
  simp only [syncPin, h, Bool.false_eq_true, if_false]

/-- Settles O9: the fields of each status register, and the pins. -/
theorem registersAndPinsShowState : Obligations.RegistersAndPinsShowState := by
  refine ⟨fun s w hs hw => ?_, fun s w hs hlow hhigh hw => ?_, fun s w hs hpos hw => ?_, fun s hs => ?_,
    fun s w hs hw => ?_, fun s hs => ?_, fun s hs => ?_⟩
  · obtain rfl : w = deviceStatus s := hw.trans (readRegister_released hs 0x01)
    exact deviceStatus_fields s
  · obtain rfl : w = seqInfo s := hw.trans (readRegister_released hs 0x0F)
    obtain ⟨hpause, hrepetition, hmode, hreason, hrest⟩ := seqInfo_fields hlow hhigh
    exact ⟨hpause, hrepetition, hmode.trans (by cases s.seq.mode <;> rfl),
      hreason.trans (by cases s.seq.stopReason <;> rfl), hrest⟩
  · obtain rfl : w = tpStatus s := hw.trans (readRegister_released hs 0x11)
    obtain ⟨herror, hrest⟩ := tpStatus_fields hpos
    exact ⟨herror.trans (by cases s.port.lastError <;> rfl), hrest⟩
  · simp only [readRegister_released hs]
    obtain ⟨hsyncs, hunused⟩ := syncConfig_fields s
    refine ⟨fun i => ⟨?_, ?_⟩, bits_maskWord _, bits_maskWord _, hsyncs, hunused, recCount_fields, statusWord_eq s⟩
    · exact iff_of_eq (congrArg (· = true) ((bit_maskWord _ i).trans (inMask_maskOf _ i)))
    · exact iff_of_eq (congrArg (· = true) ((bit_maskWord _ i).trans (inMask_maskOf _ i)))
  · obtain rfl : w = storeStatus s := hw.trans (readRegister_released hs 0x2E)
    obtain ⟨hbusy, houtcome, habort, hslot, hphase, hoperation, hunused⟩ := storeStatus_fields s
    exact ⟨hbusy, houtcome.trans (by cases s.store.outcome <;> rfl), habort, hslot, hphase,
      hoperation.trans (by cases s.store.operation <;> rfl), hunused⟩
  · simp only [readRegister_released hs]
    obtain ⟨hslots, hunused⟩ := storeDir_fields s
    obtain ⟨hautorun, hslot, houtcome, hunused'⟩ := bootInfo_fields s
    exact ⟨fun i => (hslots i).trans (by rw [slotCode]; cases (s.store.directory[i]).state <;> rfl), hunused,
      hautorun.trans (by cases s.store.current.autorun <;> rfl),
      hslot.trans (by cases s.store.current.bootSlot <;> rfl),
      houtcome.trans (by cases s.store.bootOutcome <;> rfl), hunused'⟩
  · exact ⟨fun n => ⟨iff_of_eq (congrArg (· = true) (gatePin_released hs n)), fun g => levelPin_of_gate hs,
      levelPin_of_dark hs⟩, syncPin_iff hs⟩

end Sys2Proof.Proofs
end

section
/-! The store commands: what an accepted one starts (O45), and the refusals in their order (O46). -/
namespace Sys2Proof.Proofs
open Sys2Proof.Machine

/-! ### Arguments -/

theorem slotArg_eq {s : State} {slot : Fin 6} (h : (s.cmd.arg[0]).toNat = slot.val) : slotArg s = slot :=
  Fin.ext (by
    change (s.cmd.arg[0]).toNat % 6 = slot.val
    rw [h, Nat.mod_eq_of_lt slot.isLt])

theorem slotArg_le {s : State} {slot : Fin 6} (h : (s.cmd.arg[0]).toNat = slot.val) : arg 0 s ≤ 5 :=
  h.trans_le (Nat.le_of_lt_succ slot.isLt)

theorem slotBits_eq {s : State} {slot : Fin 6} (h : (s.cmd.arg[0]).toNat = slot.val) :
    BitVec.ofNat 3 (arg 0 s) = BitVec.ofNat 3 slot.val := congrArg (BitVec.ofNat 3) h

theorem saveSource_eq (s : State) : saveSource s = if s.cmd.arg[1] = 0 then .active else .staging := bankOf_arg s.cmd.arg[1]

/-- ARG1 of SAVE names the staging bank when it is not 0. -/
theorem saveSource_staging_iff (s : State) : saveSource s = .staging ↔ s.cmd.arg[1] ≠ 0 := by
  rw [saveSource_eq]
  by_cases h : s.cmd.arg[1] = 0
  · rw [if_pos h]
    exact iff_of_false (by decide) (not_not.mpr h)
  · rw [if_neg h]
    exact iff_of_true rfl h

/-- The bank that a SAVE copies is fixed by role as it starts (R153). -/
theorem ofRole_saveSource (s : State) : s.tables.ofRole (saveSource s) =
    if s.cmd.arg[1] = 0 then s.tables.active else s.tables.active.other := by
  rw [saveSource_eq]
  split_ifs <;> rfl

/-! ### The generation of the next SAVE -/

theorem le_foldl_max {α : Type} (f : α → Nat) : ∀ (l : List α) (a : Nat), a ≤ l.foldl (fun m e => max m (f e)) a
  | [], a => Nat.le_refl a
  | e :: l, a => (Nat.le_max_left a (f e)).trans (le_foldl_max f l _)

theorem mem_le_foldl_max {α : Type} (f : α → Nat) {x : α} : ∀ {l : List α} (a : Nat), x ∈ l →
    f x ≤ l.foldl (fun m e => max m (f e)) a
  | e :: l, a, h => by
    rcases List.mem_cons.mp h with rfl | h
    · exact (Nat.le_max_right a (f x)).trans (le_foldl_max f l _)
    · exact mem_le_foldl_max (l := l) f _ h

theorem foldl_max_le {α : Type} (f : α → Nat) {c : Nat} : ∀ {l : List α} {a : Nat}, a ≤ c → (∀ x ∈ l, f x ≤ c) →
    l.foldl (fun m e => max m (f e)) a ≤ c
  | [], _, h, _ => h
  | e :: l, _, h, hl => foldl_max_le (l := l) f (Nat.max_le.mpr ⟨h, hl e List.mem_cons_self⟩) fun x hx =>
    hl x (List.mem_cons_of_mem _ hx)

/-- The largest generation is that of any entry that no entry exceeds. -/
theorem largestGeneration_eq {s : State} {k : Fin 6}
    (h : ∀ i : Fin 6, (s.store.directory[i]).generation.toNat ≤ (s.store.directory[k]).generation.toNat) :
    largestGeneration s = (s.store.directory[k]).generation.toNat := by
  refine Nat.le_antisymm (foldl_max_le _ (Nat.zero_le _) fun e he => ?_) (mem_le_foldl_max (fun e : DirectoryEntry => e.generation.toNat) 0 ?_)
  · obtain ⟨i, hi, rfl⟩ := Vector.getElem_of_mem (Vector.mem_toList_iff.mp he)
    exact h ⟨i, hi⟩
  · exact Vector.mem_toList_iff.mpr (Vector.getElem_mem k.isLt)

theorem nextGeneration_eq {s : State} {k : Fin 6} {g : BitVec 32}
    (h : ∀ i : Fin 6, (s.store.directory[i]).generation.toNat ≤ (s.store.directory[k]).generation.toNat)
    (hg : g.toNat = min 4294967295 ((s.store.directory[k]).generation.toNat + 1)) : nextGeneration s = g := by
  rw [nextGeneration, largestGeneration_eq h, ← hg, BitVec.ofNat_toNat, BitVec.setWidth_eq]

theorem startupTarget_eq (s : State) : startupTarget s = if s.store.currentCopy = some 0 then 1 else 0 := by
  cases hcopy : s.store.currentCopy with
  | none => simp [startupTarget, hcopy]
  | some copy => simp [startupTarget, hcopy]

/-! ### The boot slot and the autorun mode of SET_STARTUP -/

theorem bootSlotArg_eq {s : State} {boot : Option (Fin 6)} (h : (s.cmd.arg[0]).toNat = bootSlotCode boot) :
    bootSlotArg s = boot := by
  cases boot with
  | none => exact if_pos h
  | some slot =>
    have hne : arg 0 s ≠ 7 := fun h7 => absurd (slotArg_le (slot := slot) h) (by omega)
    exact (if_neg hne).trans (congrArg some (slotArg_eq h))

theorem bootSlotCode_inRange (boot : Option (Fin 6)) : bootSlotCode boot ≤ 5 ∨ bootSlotCode boot = 7 := by
  cases boot with
  | none => exact .inr rfl
  | some slot => exact .inl (Nat.le_of_lt_succ slot.isLt)

theorem autorunOf_code (a : Autorun) : autorunOf (autorunCode a) = a := by cases a <;> rfl

theorem autorunCode_le (a : Autorun) : autorunCode a ≤ 2 := by cases a <;> decide

theorem storeBusy_eq_false {s : State} (h : s.store.job = .idle) : storeBusy s = false :=
  Bool.eq_false_iff.mpr ((storeBusy_iff s).not.mpr (not_not.mpr h))

theorem storeBusy_eq_true {s : State} (h : s.store.job ≠ .idle) : storeBusy s = true := (storeBusy_iff s).mpr h

theorem setStartupArgs_iff (s : State) : ((arg 0 s ≤ 5 || arg 0 s = 7) && arg 1 s ≤ 2) = true ↔
    ((s.cmd.arg[0]).toNat ≤ 5 ∨ (s.cmd.arg[0]).toNat = 7) ∧ (s.cmd.arg[1]).toNat ≤ 2 := by
  rw [Bool.and_eq_true, Bool.or_eq_true, decide_eq_true_iff, decide_eq_true_iff, decide_eq_true_iff]
  exact Iff.rfl

theorem setStartupArgs_iff_not (s : State) : ((arg 0 s ≤ 5 || arg 0 s = 7) && arg 1 s ≤ 2) = true ↔
    ¬((5 < (s.cmd.arg[0]).toNat ∧ s.cmd.arg[0] ≠ 7) ∨ 2 < (s.cmd.arg[1]).toNat) := by
  have hseven : s.cmd.arg[0] = 7 ↔ (s.cmd.arg[0]).toNat = 7 := BitVec.toNat_eq
  rw [setStartupArgs_iff, Ne, hseven]
  omega

/-! ### Accepted commands -/

/-- Settles O45: what SAVE, LOAD, ERASE, SET_STARTUP and ABORT_STORE start when nothing refuses them. -/
theorem storeOperationsStart : Obligations.StoreOperationsStart := by
  refine ⟨fun s slot k g hs hidle hpending hslot hbank hstaging hlargest hg => ?_,
    fun s slot hs hidle hpending hslot hvalid hsession => ?_, fun s slot hs hidle hslot => ?_,
    fun s boot auto hs hidle hboot hauto => ?_, fun s hs hbusy => ?_⟩
  · have hrefusal : firstRefusal [(storeBusy s, .storeBusy), (s.tables.commitPending, .commitPending),
        (saveSource s = .staging && s.tables.incomplete, .stagingIncomplete),
        (saveSource s = .staging && loadSession s, .portOpen)] = none := by
      have hone : saveSource s = .staging → s.cmd.arg[1] = 1 := fun h => by
        rw [saveSource_staging_iff, Ne, word_eq_zero_iff] at h
        rw [word_eq_one_iff]
        omega
      by_cases hsource : saveSource s = .staging
      · obtain ⟨hincomplete, hsession⟩ := hstaging (hone hsource)
        simp [firstRefusal, storeBusy_eq_false hidle, hpending, hincomplete, hsession]
      · simp [firstRefusal, storeBusy_eq_false hidle, hpending, hsource]
    have hargs : (decide (arg 0 s ≤ 5) && decide (arg 1 s ≤ 1)) = true :=
      (and_decide_iff _ _).mpr ⟨slotArg_le hslot, hbank⟩
    refine (accepted_next hs hargs hrefusal).trans (congrArg Host.Outcome.next ?_)
    rw [← nextGeneration_eq hlargest hg, ← saveSource_eq, ← ofRole_saveSource, ← slotBits_eq hslot]
    obtain rfl := slotArg_eq hslot
    rfl
  · rw [← slotBits_eq hslot]
    have hargs : decide (arg 0 s ≤ 5) = true := decide_eq_true (slotArg_le hslot)
    obtain rfl := slotArg_eq hslot
    have hrefusal : firstRefusal [(storeBusy s, .storeBusy), ((s.store.directory[slotArg s]).state = .empty, .slotEmpty),
        ((s.store.directory[slotArg s]).state = .damaged, .slotDamaged), (s.tables.commitPending, .commitPending),
        (loadSession s, .portOpen)] = none := by
      simp only [firstRefusal, storeBusy_eq_false hidle, hpending, hsession, hvalid, reduceCtorEq, decide_false,
        Bool.false_eq_true, if_false]
    refine (accepted_next hs hargs hrefusal).trans (congrArg Host.Outcome.next ?_)
    simp only [startLoad, endStagingRead_eq]
    rfl
  · have hrefusal : firstRefusal [(storeBusy s, .storeBusy)] = none := by simp [firstRefusal, storeBusy_eq_false hidle]
    refine (accepted_next hs (decide_eq_true (slotArg_le hslot)) hrefusal).trans (congrArg Host.Outcome.next ?_)
    rw [← slotBits_eq hslot]
    obtain rfl := slotArg_eq hslot
    rfl
  · have hrefusal : firstRefusal [(storeBusy s, .storeBusy)] = none := by simp [firstRefusal, storeBusy_eq_false hidle]
    refine (accepted_next hs ((setStartupArgs_iff s).mpr ⟨?_, ?_⟩) hrefusal).trans (congrArg Host.Outcome.next ?_)
    · rw [hboot]
      exact bootSlotCode_inRange boot
    · rw [hauto]
      exact autorunCode_le auto
    · have hmode : autorunOf (arg 1 s) = auto := (congrArg autorunOf hauto).trans (autorunOf_code auto)
      rw [← hboot, ← startupTarget_eq]
      obtain rfl := bootSlotArg_eq hboot
      obtain rfl := hmode
      rfl
  · refine (accepted_next hs rfl (by simp [firstRefusal, storeBusy_eq_true hbusy])).trans rfl

/-! ### Refusals -/

/-- The refusals of a SAVE with its arguments in range (R153). -/
theorem saveRefusal_eq {s : State} {r : ResultCode}
    (h : if s.store.job ≠ .idle then r = .storeBusy
      else if s.tables.commitPending = true then r = .commitPending
      else if s.tables.incomplete = true then r = .stagingIncomplete ∧ s.cmd.arg[1] = 1
      else r = .portOpen ∧ s.cmd.arg[1] = 1 ∧ (s.port.kind = .load ∨ s.port.kind = .desync)) :
    firstRefusal [(storeBusy s, .storeBusy), (s.tables.commitPending, .commitPending),
      (saveSource s = .staging && s.tables.incomplete, .stagingIncomplete),
      (saveSource s = .staging && loadSession s, .portOpen)] = some (r, 0) := by
  have hstaging (h1 : s.cmd.arg[1] = 1) : saveSource s = .staging :=
    (saveSource_staging_iff s).mpr (by rw [h1]; decide)
  simp only [← storeBusy_iff, ← loadSession_iff] at h
  split_ifs at h with hbusy hpending hincomplete
  · obtain rfl := h
    exact firstRefusal_cons_applies hbusy _ _
  · obtain rfl := h
    simp [firstRefusal, hbusy, hpending]
  · obtain ⟨rfl, h1⟩ := h
    simp [firstRefusal, hbusy, hpending, hincomplete, hstaging h1]
  · obtain ⟨rfl, h1, hsession⟩ := h
    simp [firstRefusal, hbusy, hpending, hincomplete, hstaging h1, hsession]

/-- The refusals of a LOAD with its argument in range (R155). -/
theorem loadRefusal_eq {s : State} {e : DirectoryEntry} {r : ResultCode}
    (h : if s.store.job ≠ .idle then r = .storeBusy
      else if e.state = .empty then r = .slotEmpty
      else if e.state = .damaged then r = .slotDamaged
      else if s.tables.commitPending = true then r = .commitPending
      else r = .portOpen ∧ (s.port.kind = .load ∨ s.port.kind = .desync)) :
    firstRefusal [(storeBusy s, .storeBusy), (e.state = .empty, .slotEmpty), (e.state = .damaged, .slotDamaged),
      (s.tables.commitPending, .commitPending), (loadSession s, .portOpen)] = some (r, 0) := by
  simp only [← storeBusy_iff, ← loadSession_iff] at h
  split_ifs at h with hbusy hempty hdamaged hpending
  · obtain rfl := h
    exact firstRefusal_cons_applies hbusy _ _
  · obtain rfl := h
    simp [firstRefusal, hbusy, hempty]
  · obtain rfl := h
    simp [firstRefusal, hbusy, hdamaged]
  · obtain rfl := h
    simp [firstRefusal, hbusy, hempty, hdamaged, hpending]
  · obtain ⟨rfl, hsession⟩ := h
    simp [firstRefusal, hbusy, hempty, hdamaged, hpending, hsession]

theorem busyRefusal_eq {s : State} (h : s.store.job ≠ .idle) :
    firstRefusal [(storeBusy s, .storeBusy)] = some (.storeBusy, 0) :=
  firstRefusal_cons_applies (storeBusy_eq_true h) _ _

theorem saveArgs_iff (s : State) : (arg 0 s ≤ 5 && arg 1 s ≤ 1) = true ↔
    ¬(5 < (s.cmd.arg[0]).toNat ∨ 1 < (s.cmd.arg[1]).toNat) := by
  rw [and_decide_iff]
  change (s.cmd.arg[0]).toNat ≤ 5 ∧ (s.cmd.arg[1]).toNat ≤ 1 ↔ _
  omega

theorem decide_slotArg_iff (s : State) : decide (arg 0 s ≤ 5) = true ↔ ¬5 < (s.cmd.arg[0]).toNat := by
  rw [decide_eq_true_iff, Nat.not_lt]
  exact Iff.rfl

/-- Settles O46: the refusals of the store commands, in their owners' orders. -/
theorem storeCommandsRefused : Obligations.StoreCommandsRefused := by
  refine ⟨fun s r hs h => ?_, fun s hs h => ?_, fun s slot r hs hslot h => ?_, fun s r hs h => ?_, fun s r hs h => ?_,
    fun s hs h => ?_⟩
  · by_cases hargs : 5 < (s.cmd.arg[0]).toNat ∨ 1 < (s.cmd.arg[1]).toNat
    · rw [if_pos hargs] at h
      obtain rfl := h
      exact badArgument_next hs (Bool.eq_false_iff.mpr ((saveArgs_iff s).not.mpr (not_not.mpr hargs)))
    · rw [if_neg hargs] at h
      exact refused_next hs ((saveArgs_iff s).mpr hargs) (saveRefusal_eq h)
  · exact badArgument_next hs (Bool.eq_false_iff.mpr ((decide_slotArg_iff s).not.mpr (not_not.mpr h)))
  · have hargs : decide (arg 0 s ≤ 5) = true := decide_eq_true (slotArg_le hslot)
    obtain rfl := slotArg_eq hslot
    exact refused_next hs hargs (loadRefusal_eq h)
  · split_ifs at h with hargs
    · obtain rfl := h
      exact badArgument_next hs (Bool.eq_false_iff.mpr ((decide_slotArg_iff s).not.mpr (not_not.mpr hargs)))
    · obtain ⟨rfl, hbusy⟩ := h
      exact refused_next hs ((decide_slotArg_iff s).mpr hargs) (busyRefusal_eq hbusy)
  · split_ifs at h with hargs
    · obtain rfl := h
      exact badArgument_next hs (Bool.eq_false_iff.mpr ((setStartupArgs_iff_not s).not.mpr (not_not.mpr hargs)))
    · obtain ⟨rfl, hbusy⟩ := h
      exact refused_next hs ((setStartupArgs_iff_not s).mpr hargs) (busyRefusal_eq hbusy)
  · exact refused_next hs rfl (by simp [firstRefusal, storeBusy_eq_false h])

end Sys2Proof.Proofs
end

section
/-! The completions of erase attempts (O47). An attempt changes the array, and then the operation goes on or ends. -/
namespace Sys2Proof.Proofs
open Sys2Proof.Machine

theorem getElem_set_same {α : Type} {n : Nat} (v : Vector α n) (i : Fin n) (x : α) : (v.set i x)[i] = x :=
  Vector.getElem_set_self i.isLt

theorem getElem_set_other {α : Type} {n : Nat} (v : Vector α n) {i j : Fin n} (x : α) (h : j ≠ i) :
    (v.set i x)[j] = v[j] :=
  Vector.getElem_set_ne i.isLt j.isLt fun heq => h (Fin.ext heq.symm)

/-! ### How a sector step leaves the Store Controller -/

/-- The end of an operation, field by field (R151, R165). -/
theorem endOperation_eq (o : StoreOutcome) (s : State) : endOperation o s = { s with
    store := { s.store with job := .idle, abortPending := false, quiet := false, outcome := o }
    status := { s.status with
      flags := if s.store.quiet = true then s.status.flags else s.status.flags ||| storeDoneFlag } } := by
  by_cases h : s.store.quiet = true
  · simp only [endOperation, if_pos h]
  · simp only [endOperation, if_neg h]
    rfl

theorem endWithSlot_eq (slot : Fin 6) (state : SlotState) (o : StoreOutcome) (s : State) :
    endWithSlot slot state o s = { s with
      store := { s.store with
        directory := s.store.directory.set slot { state := state, label := 0, generation := 0 }
        job := .idle, abortPending := false, quiet := false, outcome := o }
      status := { s.status with
        flags := if s.store.quiet = true then s.status.flags else s.status.flags ||| storeDoneFlag } } := by
  rw [endWithSlot, endOperation_eq]
  rfl

/-- A state whose array alone has changed, with the count of free values. -/
def arrayState (a : StoreArray) (n : Nat) (s : State) : State :=
  { s with store := { s.store with array := a }, freeCount := n }

theorem eraseSector_arrayState (slot : Fin 6) (sector : Nat) (verified : Bool) (s : State) :
    ∃ a n, eraseSector slot sector verified s = arrayState a n s := by
  unfold eraseSector
  split_ifs
  · exact ⟨{ s.store.array with headers := s.store.array.headers.set slot .blank }, s.freeCount, rfl⟩
  · exact ⟨{ s.store.array with images := s.store.array.images.program (imageBase slot sector) erasedSector },
      s.freeCount, rfl⟩
  · exact ⟨{ s.store.array with headers := s.store.array.headers.set slot _ }, s.freeCount + 1, rfl⟩
  · exact ⟨{ s.store.array with images := s.store.array.images.program (imageBase slot sector) _ },
      s.freeCount + 1, rfl⟩

/-- What the completion of a sector step of a slot changes. -/
def slotStepFrame (s t : State) : Prop :=
  t = { s with
    store := { s.store with
      array := t.store.array
      directory := t.store.directory
      job := t.store.job
      outcome := t.store.outcome
      abortPending := t.store.abortPending
      quiet := t.store.quiet }
    status := { s.status with flags := t.status.flags }
    freeCount := t.freeCount }

theorem exec_eraseAttemptDone {s : State} (hs : s.inReset = false) (verified : Bool) :
    exec (.eraseAttemptDone verified) s = .next (eraseAttempt verified s) :=
  congrArg Host.Outcome.next (outOfReset_released hs)

theorem noFurtherAttempt_iff (failed : Nat) (s : State) :
    noFurtherAttempt failed s = true ↔ ¬(failed < 2 ∧ s.store.abortPending = false) := by
  rw [noFurtherAttempt, Bool.or_eq_true, decide_eq_true_iff]
  cases s.store.abortPending
  · simp
    omega
  · simp

/-- An erase attempt speaks of the array alone. -/
theorem erasesSector_of_array {slot : Fin 6} {sector : Nat} {verified : Bool} {s t u : State}
    (h : erasesSector slot sector verified s u) (harray : t.store.array = u.store.array) :
    erasesSector slot sector verified s t := by
  unfold erasesSector
  rw [harray]
  exact h

/-- What the completion of an erase attempt of a slot's sector leaves, with `outcome` for how the operation stands. -/
def attemptLeaves (slot : Fin 6) (sector : Nat) (verified : Bool) (s t : State) (outcome : Prop) : Prop :=
  erasesSector slot sector verified s t ∧ (∀ j : Fin 6, j ≠ slot → t.store.directory[j] = s.store.directory[j]) ∧
  outcome ∧ slotStepFrame s t

section
variable {slot : Fin 6} {sector : Nat} {verified : Bool} {s u : State} (hu : u = eraseSector slot sector verified s)
include hu

/-- An operation that goes on after its attempt. -/
theorem attempt_goesOn (j : StoreJob) :
    attemptLeaves slot sector verified s (setJob j u) (operationGoesOn j s (setJob j u)) := by
  obtain ⟨a, n, harray⟩ := eraseSector_arrayState slot sector verified s
  have herases := eraseSector_erases slot sector verified s
  rw [harray] at hu herases
  subst hu
  exact ⟨erasesSector_of_array herases rfl, fun _ _ => rfl, ⟨rfl, rfl, rfl, rfl, rfl, rfl⟩, rfl⟩

/-- An operation that ends with its attempt, and replaces its slot's entry. -/
theorem attempt_ends (state : SlotState) (o : StoreOutcome) :
    attemptLeaves slot sector verified s (endWithSlot slot state o u) (operationEnds o s (endWithSlot slot state o u) ∧
      (endWithSlot slot state o u).store.directory[slot] = { state := state, label := 0, generation := 0 }) := by
  obtain ⟨a, n, harray⟩ := eraseSector_arrayState slot sector verified s
  have herases := eraseSector_erases slot sector verified s
  rw [harray] at hu herases
  subst hu
  rw [endWithSlot_eq]
  exact ⟨erasesSector_of_array herases rfl, fun j hj => getElem_set_other _ _ hj,
    ⟨⟨rfl, rfl, rfl, rfl, rfl⟩, getElem_set_same _ _ _⟩, rfl⟩

end

/-- An attempt that fails its verify is followed by another, or is the last one (R152, R159). -/
theorem attempt_failed {slot : Fin 6} {sector failed : Nat} {s t u : State} {retry : StoreJob}
    (hu : u = eraseSector slot sector false s)
    (ht : t = if noFurtherAttempt failed s then endWithSlot slot .damaged .eraseFailed u else setJob retry u) :
    attemptLeaves slot sector false s t (if failed < 2 ∧ s.store.abortPending = false then operationGoesOn retry s t
      else operationEnds .eraseFailed s t ∧ t.store.directory[slot] = { state := .damaged, label := 0, generation := 0 }) := by
  by_cases hmore : failed < 2 ∧ s.store.abortPending = false
  · rw [if_neg ((noFurtherAttempt_iff failed s).not.mpr (not_not.mpr hmore))] at ht
    rw [if_pos hmore, ht]
    exact attempt_goesOn hu retry
  · rw [if_pos ((noFurtherAttempt_iff failed s).mpr hmore)] at ht
    rw [if_neg hmore, ht]
    exact attempt_ends hu .damaged .eraseFailed

/-! ### ERASE, SAVE and SET_STARTUP -/

/-- The completion of an erase attempt of an ERASE (R157, R159, R160). -/
theorem eraseAttempt_erase {s : State} {slot : Fin 6} {sector failed : Nat} {verified : Bool}
    (hjob : s.store.job = .erase slot sector failed) :
    attemptLeaves slot sector verified s (eraseAttempt verified s)
      (if verified = true ∧ (8 ≤ sector ∨ s.store.abortPending = true) then
        operationEnds (if 8 ≤ sector then .ok else .aborted) s (eraseAttempt verified s) ∧
          (eraseAttempt verified s).store.directory[slot] = { state := .empty, label := 0, generation := 0 }
      else if verified = true then operationGoesOn (.erase slot (sector + 1) 0) s (eraseAttempt verified s)
      else if failed < 2 ∧ s.store.abortPending = false then
        operationGoesOn (.erase slot sector (failed + 1)) s (eraseAttempt verified s)
      else operationEnds .eraseFailed s (eraseAttempt verified s) ∧
        (eraseAttempt verified s).store.directory[slot] = { state := .damaged, label := 0, generation := 0 }) := by
  cases verified with
  | true =>
    by_cases hlast : 8 ≤ sector
    · have heq : eraseAttempt true s = endWithSlot slot .empty .ok (eraseSector slot sector true s) := by
        simp only [eraseAttempt, hjob, if_true, if_pos hlast]
      rw [heq, if_pos ⟨rfl, .inl hlast⟩, if_pos hlast]
      exact attempt_ends rfl .empty .ok
    by_cases habort : s.store.abortPending = true
    · have heq : eraseAttempt true s = endWithSlot slot .empty .aborted (eraseSector slot sector true s) := by
        simp only [eraseAttempt, hjob, if_true, if_neg hlast, habort]
      rw [heq, if_pos ⟨rfl, .inr habort⟩, if_neg hlast]
      exact attempt_ends rfl .empty .aborted
    · have heq : eraseAttempt true s = setJob (.erase slot (sector + 1) 0) (eraseSector slot sector true s) := by
        simp only [eraseAttempt, hjob, if_true, if_neg hlast, if_neg habort]
      rw [heq, if_neg fun h => h.2.elim hlast habort, if_pos rfl]
      exact attempt_goesOn rfl _
  | false =>
    rw [if_neg fun h => Bool.false_ne_true h.1, if_neg Bool.false_ne_true]
    exact attempt_failed rfl (by simp only [eraseAttempt, hjob, Bool.false_eq_true, if_false])

/-- The completion of an erase attempt of a SAVE (R154, R159, R160). -/
theorem eraseAttempt_save {s : State} {slot : Fin 6} {source : BankRole} {bank : BankId} {label : Word} {g : BitVec 32}
    {sector failed : Nat} {verified : Bool} (hjob : s.store.job = .save slot source bank label g (.erasing sector failed)) :
    attemptLeaves slot sector verified s (eraseAttempt verified s)
      (if verified = true ∧ s.store.abortPending = true then
        operationEnds .aborted s (eraseAttempt verified s) ∧
          (eraseAttempt verified s).store.directory[slot] = { state := .empty, label := 0, generation := 0 }
      else if verified = true then
        operationGoesOn
          (.save slot source bank label g (if sector < 8 then .erasing (sector + 1) 0 else .programming 0)) s
          (eraseAttempt verified s)
      else if failed < 2 ∧ s.store.abortPending = false then
        operationGoesOn (.save slot source bank label g (.erasing sector (failed + 1))) s (eraseAttempt verified s)
      else operationEnds .eraseFailed s (eraseAttempt verified s) ∧
        (eraseAttempt verified s).store.directory[slot] = { state := .damaged, label := 0, generation := 0 }) := by
  cases verified with
  | true =>
    by_cases habort : s.store.abortPending = true
    · have heq : eraseAttempt true s = endWithSlot slot .empty .aborted (eraseSector slot sector true s) := by
        simp only [eraseAttempt, hjob, if_true, habort]
      rw [heq, if_pos ⟨rfl, habort⟩]
      exact attempt_ends rfl .empty .aborted
    · have heq : eraseAttempt true s = setJob (.save slot source bank label g
          (if sector < 8 then .erasing (sector + 1) 0 else .programming 0)) (eraseSector slot sector true s) := by
        simp only [eraseAttempt, hjob, if_true, if_neg habort]
      rw [if_neg (c := true = true ∧ _) fun h => habort h.2, if_pos (c := true = true) rfl, heq]
      exact attempt_goesOn rfl _
  | false =>
    rw [if_neg fun h => Bool.false_ne_true h.1, if_neg Bool.false_ne_true]
    exact attempt_failed rfl (by simp only [eraseAttempt, hjob, Bool.false_eq_true, if_false])

/-- What the completion of a sector step of a SET_STARTUP changes of everything but the start-up copies. -/
def startupStepFrame (s t : State) : Prop :=
  t = { s with
    store := { s.store with
      array := { s.store.array with startups := t.store.array.startups }
      job := t.store.job
      outcome := t.store.outcome
      abortPending := t.store.abortPending
      quiet := t.store.quiet }
    status := { s.status with flags := t.status.flags } }

section
variable (copy : Fin 2) (sector : StartupSector) (s : State)

theorem startup_goesOn (j : StoreJob) :
    (setJob j (setStartupSector copy sector s)).store.array.startups = s.store.array.startups.set copy sector ∧
    operationGoesOn j s (setJob j (setStartupSector copy sector s)) ∧
    startupStepFrame s (setJob j (setStartupSector copy sector s)) :=
  ⟨rfl, ⟨rfl, rfl, rfl, rfl, rfl, rfl⟩, rfl⟩

theorem startup_ends (o : StoreOutcome) :
    (endOperation o (setStartupSector copy sector s)).store.array.startups = s.store.array.startups.set copy sector ∧
    operationEnds o s (endOperation o (setStartupSector copy sector s)) ∧
    startupStepFrame s (endOperation o (setStartupSector copy sector s)) := by
  rw [endOperation_eq]
  exact ⟨rfl, ⟨rfl, rfl, rfl, rfl, rfl⟩, rfl⟩

end

/-- The completion of an erase attempt of a SET_STARTUP (R158, R159, R160). -/
theorem eraseAttempt_setStartup {s : State} {boot : Option (Fin 6)} {auto : Autorun} {target : Fin 2} {failed : Nat}
    {verified : Bool} (hjob : s.store.job = .setStartup boot auto target (.erasing failed)) :
    (eraseAttempt verified s).store.array.startups =
      s.store.array.startups.set target (if verified = true then .blank else .spoiled) ∧
    (if verified = true ∧ s.store.abortPending = true then operationEnds .aborted s (eraseAttempt verified s)
    else if verified = true then operationGoesOn (.setStartup boot auto target .programming) s (eraseAttempt verified s)
    else if failed < 2 ∧ s.store.abortPending = false then
      operationGoesOn (.setStartup boot auto target (.erasing (failed + 1))) s (eraseAttempt verified s)
    else operationEnds .eraseFailed s (eraseAttempt verified s)) ∧ startupStepFrame s (eraseAttempt verified s) := by
  cases verified with
  | true =>
    by_cases habort : s.store.abortPending = true
    · have heq : eraseAttempt true s = endOperation .aborted (setStartupSector target .blank s) := by
        simp only [eraseAttempt, hjob, if_true, habort]
      obtain ⟨hstartups, hends, hframe⟩ := startup_ends target .blank s .aborted
      rw [heq]
      exact ⟨hstartups, (if_pos (c := true = true ∧ s.store.abortPending = true) ⟨rfl, habort⟩).mpr hends, hframe⟩
    · have heq : eraseAttempt true s =
          setJob (.setStartup boot auto target .programming) (setStartupSector target .blank s) := by
        simp only [eraseAttempt, hjob, if_true, if_neg habort]
      obtain ⟨hstartups, hgoes, hframe⟩ := startup_goesOn target .blank s (.setStartup boot auto target .programming)
      rw [heq]
      exact ⟨hstartups, (if_neg (c := true = true ∧ s.store.abortPending = true) fun h => habort h.2).mpr hgoes, hframe⟩
  | false =>
    rw [if_neg (c := false = true ∧ _) fun h => Bool.false_ne_true h.1]
    by_cases hmore : failed < 2 ∧ s.store.abortPending = false
    · have heq : eraseAttempt false s =
          setJob (.setStartup boot auto target (.erasing (failed + 1))) (setStartupSector target .spoiled s) := by
        simp only [eraseAttempt, hjob, Bool.false_eq_true, if_false,
          if_neg ((noFurtherAttempt_iff failed s).not.mpr (not_not.mpr hmore))]
      rw [heq, if_pos hmore]
      exact startup_goesOn target .spoiled s _
    · have heq : eraseAttempt false s = endOperation .eraseFailed (setStartupSector target .spoiled s) := by
        simp only [eraseAttempt, hjob, Bool.false_eq_true, if_false, if_pos ((noFurtherAttempt_iff failed s).mpr hmore)]
      rw [heq, if_neg hmore]
      exact startup_ends target .spoiled s .eraseFailed

/-- Settles O47: the erase attempts of the three operations. -/
theorem eraseAttempts : Obligations.EraseAttempts := by
  refine ⟨fun s slot sector failed verified hs hjob _ => ?_,
    fun s slot source bank label g sector failed verified hs hjob _ => ?_,
    fun s boot auto target failed verified hs hjob => ?_⟩
  · exact ⟨_, exec_eraseAttemptDone hs verified, eraseAttempt_erase hjob⟩
  · exact ⟨_, exec_eraseAttemptDone hs verified, eraseAttempt_save hjob⟩
  · obtain ⟨hstartups, houtcome, hframe⟩ := eraseAttempt_setStartup (verified := verified) hjob
    refine ⟨_, exec_eraseAttemptDone hs verified, fun hv => ?_, ?_, fun copy hcopy => ?_, houtcome, hframe⟩
    · rw [hstartups, if_pos hv]
      exact getElem_set_same _ _ _
    · rw [hstartups]
      refine (congrArg StartupSector.judge (getElem_set_same _ _ _)).trans ?_
      cases verified <;> rfl
    · rw [hstartups]
      exact getElem_set_other _ _ hcopy

end Sys2Proof.Proofs
end

section
/-! The completions of program steps (O48). -/
namespace Sys2Proof.Proofs
open Sys2Proof.Machine

theorem exec_programStepDone {s : State} (hs : s.inReset = false) (verified : Bool) :
    exec (.programStepDone verified) s = .next (programStep verified s) :=
  congrArg Host.Outcome.next (outOfReset_released hs)

/-! ### Images and headers -/

theorem length_flatMap_stepArea_ge : ∀ es : List (Option StepRecord), 28 * es.length ≤ (es.flatMap stepArea).length
  | [] => Nat.le_refl 0
  | e :: es => by
    have harea : 28 ≤ (stepArea e).length := by
      simp only [stepArea, List.length_append, List.length_replicate]
      omega
    have hrest := length_flatMap_stepArea_ge es
    simp only [List.flatMap_cons, List.length_append, List.length_cons]
    omega

/-- The image of any bank fills its eight sectors. -/
theorem length_imageWords_ge (b : Bank) : 4096 ≤ (imageWords b).length := by
  have hsteps := length_flatMap_stepArea_ge b.steps.toList
  simp only [imageWords, List.length_append, List.length_map, List.length_replicate, Vector.length_toList] at hsteps ⊢
  omega

theorem length_imageSector_eq (b : Bank) {k : Nat} (hlow : 1 ≤ k) (hhigh : k ≤ 8) : (imageSector b k).length = 512 := by
  have hlength := length_imageWords_ge b
  simp only [imageSector, List.length_take, List.length_drop]
  omega

/-- A header with its commit word programmed does not read erased. -/
theorem readsErased_of_commit {w : HeaderWords} (h : w.commit = Config.commitWord) : w.readsErased = false := by
  have hne : decide (Config.commitWord = Config.erased) = false := by decide
  simp only [HeaderWords.readsErased, h, hne, Bool.and_false, Bool.false_and]

/-- A header reads committed when its body is well formed and its commit word stands (R146). -/
theorem condition_eq_committed_iff (w : HeaderWords) :
    (HeaderSector.written w).condition = .committed ↔ w.wellFormed = true ∧ w.commit = Config.commitWord := by
  simp only [HeaderSector.condition]
  by_cases hcommit : w.commit = Config.commitWord
  · rw [readsErased_of_commit hcommit, if_neg Bool.false_ne_true, if_pos hcommit]
    by_cases hformed : w.wellFormed = true <;> simp [hformed, hcommit]
  · rw [if_neg hcommit]
    split_ifs <;> simp [hcommit]

/-! ### The part in hand -/

/-- What a program of a part of a SAVE does to the array (R152, R154, R160). -/
def programsPart (slot : Fin 6) (b : Bank) (label : Word) (g : BitVec 32) (part : Nat) (verified : Bool) (s : State)
    (a : StoreArray) : Prop :=
  (∀ j : Fin 6, j ≠ slot → a.headers[j] = s.store.array.headers[j]) ∧
  (1 ≤ part → part ≤ 8 → a.headers = s.store.array.headers) ∧
  (∀ x : Nat, (part = 0 ∨ part = 9 ∨ x < imageBase slot part ∨ imageBase slot part + 512 ≤ x) →
    a.images.read x = s.store.array.images.read x) ∧
  (verified = true → part = 0 → a.headers[slot] = .written (headerBody b label g)) ∧
  (verified = true → 1 ≤ part → part ≤ 8 → ∀ k, k < 512 →
    a.images.read (imageBase slot part + k) = ((imageSector b part)[k]?).getD Config.erased) ∧
  (verified = true → part = 9 → ∀ w, s.store.array.headers[slot] = .written w → w.wellFormed = true → w.label = label →
    w.generation = g → w.length = word b.order.length → w.definedSteps = word b.definedSteps →
    ∃ v, a.headers[slot] = .written v ∧ (HeaderSector.written v).condition = .committed ∧
      v.matchesImage (imageWords b) = true) ∧
  (verified = false → (s.store.array.headers[slot]).condition ≠ .committed → (a.headers[slot]).condition ≠ .committed) ∧
  a.startups = s.store.array.startups

section
variable {slot : Fin 6} {b : Bank} {label : Word} {g : BitVec 32} {part : Nat} {s : State}

/-- The check value and the commit word of a SAVE match the header body and the image (R146, R154). -/
theorem committed_matches {w : HeaderWords} (hformed : w.wellFormed = true) (hlabel : w.label = label)
    (hgeneration : w.generation = g) (hlength : w.length = word b.order.length) (hdefined : w.definedSteps = word b.definedSteps) :
    (HeaderSector.written { w with check := some (slotCheck b label g), commit := Config.commitWord }).condition =
      .committed ∧
    { w with check := some (slotCheck b label g), commit := Config.commitWord }.matchesImage (imageWords b) = true :=
  ⟨(condition_eq_committed_iff _).mpr ⟨hformed, rfl⟩, by
    simp [HeaderWords.matchesImage, slotCheck, hlabel, hgeneration, hlength, hdefined]⟩

theorem headerPart_programs (h : HeaderSector) (hpart : part = 0 ∨ part = 9) (verified : Bool)
    (hbody : verified = true → part = 0 → h = .written (headerBody b label g))
    (hcommit : verified = true → part = 9 → h = (s.store.array.headers[slot]).commitWith (slotCheck b label g))
    (hfailed : verified = false → (s.store.array.headers[slot]).condition ≠ .committed → h.condition ≠ .committed) :
    programsPart slot b label g part verified s
      { s.store.array with headers := s.store.array.headers.set slot h } := by
  have hself : (s.store.array.headers.set slot h)[slot] = h := getElem_set_same _ _ _
  refine ⟨fun j hj => getElem_set_other _ _ hj, fun hlow hhigh => ?_, fun _ _ => rfl,
    fun hv h0 => hself.trans (hbody hv h0), fun _ hlow hhigh => ?_,
    fun hv h9 w hw hformed hlabel hgeneration hlength hdefined => ?_, fun hv hbefore => ?_, rfl⟩
  · omega
  · omega
  · refine ⟨_, hself.trans ((hcommit hv h9).trans (by rw [hw]; rfl)), ?_⟩
    exact committed_matches hformed hlabel hgeneration hlength hdefined
  · rw [hself]
    exact hfailed hv hbefore

theorem imagePart_programs (ws : List Word) (hlow : 1 ≤ part) (hhigh : part ≤ 8) (hlength : ws.length = 512)
    (verified : Bool) (hwords : verified = true → ws = imageSector b part) :
    programsPart slot b label g part verified s
      { s.store.array with images := s.store.array.images.program (imageBase slot part) ws } := by
  refine ⟨fun _ _ => rfl, fun _ _ => rfl, fun x hx => ?_, fun _ h0 => ?_, fun hv _ _ k hk => ?_, fun _ h9 => ?_,
    fun _ h => h, rfl⟩
  · exact Memory.read_program_outside _ _ _ _ (by omega)
  · omega
  · rw [Memory.read_program_inside _ _ _ _ (hk.trans_eq hlength.symm), ← hwords hv,
      List.getElem?_eq_getElem (hk.trans_eq hlength.symm), Option.getD_some]
  · omega

/-- A verified part (R154): the state that it leaves, and what it did to the array. -/
theorem programPart_programs (hpart : part ≤ 9) : ∃ a, programPart slot b label g part s = arrayState a s.freeCount s ∧
    programsPart slot b label g part true s a := by
  unfold programPart
  by_cases h0 : part = 0
  · rw [if_pos h0]
    exact ⟨_, rfl, headerPart_programs _ (.inl h0) true (fun _ _ => rfl) (fun _ h9 => by omega) nofun⟩
  by_cases h9 : part < 9
  · rw [if_neg h0, if_pos h9]
    exact ⟨_, rfl, imagePart_programs _ (by omega) (by omega) (length_imageSector_eq b (by omega) (by omega)) true fun _ => rfl⟩
  · rw [if_neg h0, if_neg h9]
    exact ⟨_, rfl, headerPart_programs _ (.inr (by omega)) true (fun _ h => absurd h h0) (fun _ _ => rfl) nofun⟩

/-- A part that fails its verify (R152, R154). -/
theorem leftByProgram_programs (hpart : part ≤ 9) : ∃ a n, leftByProgram slot part s = arrayState a n s ∧
    programsPart slot b label g part false s a := by
  have hsame (hends : part = 0 ∨ part = 9) : programsPart slot b label g part false s s.store.array := by
    refine ⟨fun _ _ => rfl, fun _ _ => rfl, fun _ _ => rfl, nofun, nofun, nofun, fun _ h => h, rfl⟩
  unfold leftByProgram
  by_cases h0 : part = 0
  · rw [if_pos h0]
    by_cases hkept : Config.freeKept s.freeCount = true
    · rw [if_pos hkept]
      exact ⟨_, s.freeCount + 1, rfl, hsame (.inl h0)⟩
    · rw [if_neg hkept]
      exact ⟨_, s.freeCount + 1, rfl, headerPart_programs .spoiled (.inl h0) false nofun nofun fun _ _ => by decide⟩
  by_cases h9 : part < 9
  · rw [if_neg h0, if_pos h9]
    exact ⟨_, s.freeCount + 1, rfl, imagePart_programs _ (by omega) (by omega) (length_freeSector _) false nofun⟩
  · rw [if_neg h0, if_neg h9]
    exact ⟨_, s.freeCount, rfl, hsame (.inr (by omega))⟩

end

/-! ### SAVE and SET_STARTUP -/

/-- The completion of a program step of a SAVE (R154, R159, R160). -/
theorem programStep_save {s : State} {slot : Fin 6} {source : BankRole} {bank : BankId} {label : Word} {g : BitVec 32}
    {part : Nat} {verified : Bool} (hjob : s.store.job = .save slot source bank label g (.programming part))
    (hpart : part ≤ 9) :
    programsPart slot (s.tables.bank bank) label g part verified s (programStep verified s).store.array ∧
    (∀ j : Fin 6, j ≠ slot → (programStep verified s).store.directory[j] = s.store.directory[j]) ∧
    (if verified = true ∧ part = 9 then
      operationEnds .ok s (programStep verified s) ∧
        (programStep verified s).store.directory[slot] = { state := .valid, label := label, generation := g }
    else if verified = true ∧ s.store.abortPending = false then
      operationGoesOn (.save slot source bank label g (.programming (part + 1))) s (programStep verified s)
    else operationEnds (if verified = true then .aborted else .programFailed) s (programStep verified s) ∧
      (programStep verified s).store.directory[slot] = { state := .damaged, label := 0, generation := 0 }) ∧
    slotStepFrame s (programStep verified s) := by
  cases verified with
  | true =>
    obtain ⟨a, hu, ha⟩ := programPart_programs (slot := slot) (b := s.tables.bank bank) (label := label) (g := g) (s := s) hpart
    by_cases h9 : part = 9
    · have heq : programStep true s = endOperation .ok
          (setDirectory slot { state := .valid, label := label, generation := g } (arrayState a s.freeCount s)) := by
        simp only [programStep, hjob, if_true, hu, if_pos h9.ge]
      rw [heq, if_pos ⟨rfl, h9⟩, endOperation_eq]
      exact ⟨ha, fun j hj => getElem_set_other _ _ hj, ⟨⟨rfl, rfl, rfl, rfl, rfl⟩, getElem_set_same _ _ _⟩, rfl⟩
    have hlt : ¬9 ≤ part := by omega
    by_cases habort : s.store.abortPending = false
    · have heq : programStep true s = setJob (.save slot source bank label g (.programming (part + 1)))
          (arrayState a s.freeCount s) := by
        simp only [programStep, hjob, if_true, hu, if_neg hlt, habort, Bool.false_eq_true, if_false]
      rw [heq, if_neg (c := true = true ∧ part = 9) fun h => h9 h.2, if_pos ⟨rfl, habort⟩]
      exact ⟨ha, fun _ _ => rfl, ⟨rfl, rfl, rfl, rfl, rfl, rfl⟩, rfl⟩
    · have heq : programStep true s = endWithSlot slot .damaged .aborted (arrayState a s.freeCount s) := by
        simp only [programStep, hjob, if_true, hu, if_neg hlt, Bool.not_eq_false _ ▸ habort]
      rw [heq, if_neg (c := true = true ∧ part = 9) fun h => h9 h.2,
        if_neg (c := true = true ∧ s.store.abortPending = false) fun h => habort h.2, if_pos rfl, endWithSlot_eq]
      exact ⟨ha, fun j hj => getElem_set_other _ _ hj, ⟨⟨rfl, rfl, rfl, rfl, rfl⟩, getElem_set_same _ _ _⟩, rfl⟩
  | false =>
    obtain ⟨a, n, hu, ha⟩ := leftByProgram_programs (slot := slot) (b := s.tables.bank bank) (label := label) (g := g) (s := s)
      hpart
    have heq : programStep false s = endWithSlot slot .damaged .programFailed (arrayState a n s) := by
      simp only [programStep, hjob, Bool.false_eq_true, if_false, hu]
    rw [heq, if_neg (c := false = true ∧ part = 9) fun h => Bool.false_ne_true h.1,
      if_neg (c := false = true ∧ s.store.abortPending = false) fun h => Bool.false_ne_true h.1,
      if_neg Bool.false_ne_true, endWithSlot_eq]
    exact ⟨ha, fun j hj => getElem_set_other _ _ hj, ⟨⟨rfl, rfl, rfl, rfl, rfl⟩, getElem_set_same _ _ _⟩, rfl⟩

/-! ### Start-up copies -/

theorem readBootSlot_code (boot : Option (Fin 6)) : readBootSlot (word (bootSlotCode boot)) = some boot := by
  cases boot with
  | none => rfl
  | some slot => fin_cases slot <;> rfl

theorem readAutorun_code (a : Autorun) : readAutorun (word (autorunCode a)) = some a := by cases a <;> rfl

/-- A copy reads as the record that it was programmed with (R149). -/
theorem judge_startupSector (r : StartupRecord) : (startupSector r).judge = some r := by
  simp [startupSector, StartupSector.judge, readBootSlot_code, readAutorun_code, StartupWords.checks]

/-- The completion of the program step of a SET_STARTUP (R158, R160). -/
theorem programStep_setStartup {s : State} {boot : Option (Fin 6)} {auto : Autorun} {target : Fin 2} {verified : Bool}
    (hjob : s.store.job = .setStartup boot auto target .programming) : programStep verified s = { s with
      store := { s.store with
        array := { s.store.array with
          startups := s.store.array.startups.set target
            (if verified = true then startupSector (newStartup boot auto s) else .spoiled) }
        current := if verified = true then newStartup boot auto s else s.store.current
        currentCopy := if verified = true then some target else s.store.currentCopy
        job := .idle, abortPending := false, quiet := false
        outcome := if verified = true then .ok else .programFailed }
      status := { s.status with
        flags := if s.store.quiet = true then s.status.flags else s.status.flags ||| storeDoneFlag } } := by
  cases verified
  · simp only [programStep, hjob, Bool.false_eq_true, if_false, endOperation_eq]
    rfl
  · simp only [programStep, hjob, if_true, endOperation_eq]
    rfl

/-- The array's frame of a step of a slot, which leaves the start-up copies. -/
theorem slotStepFrame_startups {s t : State} (h : slotStepFrame s t)
    (hstartups : t.store.array.startups = s.store.array.startups) :
    t = { s with
      store := { s.store with
        array := { s.store.array with headers := t.store.array.headers, images := t.store.array.images }
        directory := t.store.directory
        job := t.store.job
        outcome := t.store.outcome
        abortPending := t.store.abortPending
        quiet := t.store.quiet }
      status := { s.status with flags := t.status.flags }
      freeCount := t.freeCount } := by
  have harray : ({ s.store.array with headers := t.store.array.headers, images := t.store.array.images } : StoreArray) =
      t.store.array := by
    simp only [← hstartups]
  rw [harray]
  exact h

/-- Settles O48: the program steps of a SAVE and of a SET_STARTUP. -/
theorem programSteps : Obligations.ProgramSteps := by
  refine ⟨fun s slot source bank label g part verified hs hjob hpart => ⟨_, exec_programStepDone hs verified, ?_⟩,
    fun s boot auto target verified hs hjob => ⟨_, exec_programStepDone hs verified, ?_⟩⟩
  · obtain ⟨⟨hheaders, hmiddle, himages, hbody, hwords, hcommit, hfailed, hstartups⟩, hdirectory, houtcome, hframe⟩ :=
      programStep_save (verified := verified) hjob hpart
    exact ⟨fun j hj => ⟨hdirectory j hj, hheaders j hj⟩, hmiddle, himages, hbody, hwords, hcommit, hfailed, houtcome,
      slotStepFrame_startups hframe hstartups⟩
  · rw [programStep_setStartup hjob]
    refine ⟨⟨rfl, rfl, rfl, rfl, rfl⟩, fun copy hcopy => getElem_set_other _ _ hcopy, fun hv => ⟨if_pos hv, if_pos hv, ?_⟩,
      fun hv => ⟨if_neg (hv ▸ Bool.false_ne_true), if_neg (hv ▸ Bool.false_ne_true), ?_⟩, rfl⟩
    · subst hv
      exact (congrArg StartupSector.judge (getElem_set_same _ _ _)).trans (judge_startupSector _)
    · subst hv
      exact congrArg StartupSector.judge (getElem_set_same _ _ _)

end Sys2Proof.Proofs
end

section
/-! Stored words that change without an operation (O51). -/
namespace Sys2Proof.Proofs
open Sys2Proof.Machine

theorem exec_storedWordChange (place : StoredWord) (flip : Word) (s : State) :
    exec (.storedWordChange place flip) s = .next (changeStoredWord place flip s) := rfl

/-! ### Bits changed -/

theorem xor_ne_self {n : Nat} {flip : BitVec n} (h : flip ≠ 0) (v : BitVec n) : v ^^^ flip ≠ v := fun heq =>
  h (by
    have hcancel : v ^^^ (v ^^^ flip) = flip := by rw [← BitVec.xor_assoc, BitVec.xor_self, BitVec.zero_xor]
    rw [← hcancel, heq, BitVec.xor_self]
    rfl)

theorem flipLow_ne {flip : Word} (h : flip ≠ 0) (v : BitVec 32) : flipLow v flip ≠ v :=
  xor_ne_self (fun h0 => h (by
    have htoNat := congrArg BitVec.toNat h0
    have hlt := flip.isLt
    simp only [BitVec.toNat_setWidth] at htoNat
    refine BitVec.eq_of_toNat_eq ?_
    simp at htoNat ⊢
    omega)) v

theorem flipHigh_ne {flip : Word} (h : flip ≠ 0) (v : BitVec 32) : flipHigh v flip ≠ v :=
  xor_ne_self (fun h0 => h (by
    have htoNat := congrArg BitVec.toNat h0
    have hlt := flip.isLt
    simp only [BitVec.toNat_shiftLeft, BitVec.toNat_setWidth, Nat.shiftLeft_eq] at htoNat
    refine BitVec.eq_of_toNat_eq ?_
    simp at htoNat ⊢
    omega)) v

/-! ### A word of an image -/

theorem read_changed_same (m : Memory) (a : Nat) (w : Word) : (m.program a [w]).read a = w := by
  simpa using Memory.read_program_inside m a 0 [w] (by simp)

theorem read_changed_other (m : Memory) {a x : Nat} (w : Word) (h : x ≠ a) : (m.program a [w]).read x = m.read x :=
  Memory.read_program_outside m a x [w] (by
    simp only [List.length_singleton]
    omega)

theorem getElem_slice (m : Memory) (a n k : Nat) (h : k < (m.slice a n).length) : (m.slice a n)[k] = m.read (a + k) := by
  simp [Memory.slice]

/-- A check value matches one image only (R146). -/
theorem matchesImage_unique {w : HeaderWords} {image image' : List Word} (h : w.matchesImage image = true)
    (hne : image' ≠ image) : w.matchesImage image' = false := by
  rw [Bool.eq_false_iff]
  intro h'
  cases hcheck : w.check with
  | none => simp [HeaderWords.matchesImage, hcheck] at h
  | some c =>
    simp only [HeaderWords.matchesImage, hcheck, Bool.and_eq_true, decide_eq_true_eq] at h h'
    exact hne (h'.2.symm.trans h.2)

/-! ### A word of a header -/

/-- A header whose check value matches an image, field by field. -/
theorem matchesImage_iff (w : HeaderWords) (image : List Word) : w.matchesImage image = true ↔
    ∃ c, w.check = some c ∧ c.flip = 0 ∧ c.label = w.label ∧ c.generation = w.generation ∧ c.length = w.length ∧
      c.definedSteps = w.definedSteps ∧ c.image = image := by
  cases hcheck : w.check <;> simp [HeaderWords.matchesImage, hcheck, and_assoc]

theorem wellFormed_iff (w : HeaderWords) : w.wellFormed = true ↔
    w.marker = Config.bodyMarker ∧ w.length.toNat ≤ 512 ∧ w.definedSteps.toNat ≤ 128 := by
  simp [HeaderWords.wellFormed, and_assoc]

/-- A changed word of a committed header is found by the check that reads it next (R146). -/
theorem headerChange_found {w : HeaderWords} {image : List Word} {flip : Word} (field : HeaderField) (hflip : flip ≠ 0)
    (hcommitted : (HeaderSector.written w).condition = .committed) (hmatches : w.matchesImage image = true) :
    (HeaderSector.written (w.change field flip)).condition ≠ .committed ∨ (w.change field flip).matchesImage image = false := by
  obtain ⟨hformed, hcommit⟩ := (condition_eq_committed_iff w).mp hcommitted
  obtain ⟨c, hcheck, hzero, hlabel, hgeneration, hlength, hdefined, -⟩ := (matchesImage_iff w image).mp hmatches
  simp only [Ne, condition_eq_committed_iff, Bool.eq_false_iff, matchesImage_iff]
  cases field with
  | bodyMarker =>
    obtain ⟨hmarker, -⟩ := (wellFormed_iff w).mp hformed
    refine .inl fun h => ?_
    obtain ⟨hmarker', -⟩ := (wellFormed_iff _).mp h.1
    exact xor_ne_self hflip w.marker (hmarker'.trans hmarker.symm)
  | label =>
    refine .inr ?_
    rintro ⟨d, hd, -, hd', -⟩
    obtain rfl := Option.some.inj (hd.symm.trans hcheck)
    exact xor_ne_self hflip w.label (hd'.symm.trans hlabel)
  | generationLow =>
    refine .inr ?_
    rintro ⟨d, hd, -, -, hd', -⟩
    obtain rfl := Option.some.inj (hd.symm.trans hcheck)
    exact flipLow_ne hflip w.generation (hd'.symm.trans hgeneration)
  | generationHigh =>
    refine .inr ?_
    rintro ⟨d, hd, -, -, hd', -⟩
    obtain rfl := Option.some.inj (hd.symm.trans hcheck)
    exact flipHigh_ne hflip w.generation (hd'.symm.trans hgeneration)
  | length =>
    refine .inr ?_
    rintro ⟨d, hd, -, -, -, hd', -⟩
    obtain rfl := Option.some.inj (hd.symm.trans hcheck)
    exact xor_ne_self hflip w.length (hd'.symm.trans hlength)
  | definedSteps =>
    refine .inr ?_
    rintro ⟨d, hd, -, -, -, -, hd', -⟩
    obtain rfl := Option.some.inj (hd.symm.trans hcheck)
    exact xor_ne_self hflip w.definedSteps (hd'.symm.trans hdefined)
  | checkLow =>
    refine .inr ?_
    rintro ⟨d, hd, hd', -⟩
    simp only [HeaderWords.change, hcheck, Option.map_some, Option.some.injEq] at hd
    subst hd
    exact flipLow_ne hflip c.flip (hd'.trans hzero.symm)
  | checkHigh =>
    refine .inr ?_
    rintro ⟨d, hd, hd', -⟩
    simp only [HeaderWords.change, hcheck, Option.map_some, Option.some.injEq] at hd
    subst hd
    exact flipHigh_ne hflip c.flip (hd'.trans hzero.symm)
  | commitWord =>
    refine .inl fun h => xor_ne_self hflip w.commit ?_
    have hchanged := h.2
    simp only [HeaderWords.change, hcheck, Option.isSome_some, if_true] at hchanged
    exact hchanged.trans hcommit.symm

/-! ### A word of a start-up copy -/

/-- A copy is valid when its check value matches, and the words of its boot slot and its autorun mode are codes (R149). -/
theorem judge_eq_none_of_checks {w : StartupWords} (h : w.checks = false) : (StartupSector.written w).judge = none := by
  simp only [StartupSector.judge, h, Bool.false_eq_true, if_false]
  split <;> rfl

theorem checks_iff (w : StartupWords) : w.checks = true ↔ w.check.flip = 0 ∧ w.check.generation = w.generation ∧
    w.check.bootSlot = w.bootSlot ∧ w.check.autorun = w.autorun := by
  simp [StartupWords.checks, and_assoc]

theorem checks_of_judge {w : StartupWords} {r : StartupRecord} (h : (StartupSector.written w).judge = some r) :
    w.checks = true := by
  by_contra hnot
  rw [judge_eq_none_of_checks (Bool.eq_false_iff.mpr hnot)] at h
  cases h

/-- A changed word of a valid start-up copy leaves it no longer valid (R149). -/
theorem startupChange_found {w : StartupWords} {r : StartupRecord} {flip : Word} (field : StartupField) (hflip : flip ≠ 0)
    (h : (StartupSector.written w).judge = some r) : (StartupSector.written (w.change field flip)).judge = none := by
  obtain ⟨hzero, hgeneration, hslot, hautorun⟩ := (checks_iff w).mp (checks_of_judge h)
  refine judge_eq_none_of_checks (Bool.eq_false_iff.mpr fun hchecks => ?_)
  obtain ⟨hzero', hgeneration', hslot', hautorun'⟩ := (checks_iff _).mp hchecks
  cases field with
  | generationLow => exact flipLow_ne hflip w.generation (hgeneration'.symm.trans hgeneration)
  | generationHigh => exact flipHigh_ne hflip w.generation (hgeneration'.symm.trans hgeneration)
  | bootSlot => exact xor_ne_self hflip w.bootSlot (hslot'.symm.trans hslot)
  | autorun => exact xor_ne_self hflip w.autorun (hautorun'.symm.trans hautorun)
  | checkLow => exact flipLow_ne hflip w.check.flip (hzero'.trans hzero.symm)
  | checkHigh => exact flipHigh_ne hflip w.check.flip (hzero'.trans hzero.symm)

/-! ### O51 -/

/-- Every word of a header sector reads erased, when its check value has not been programmed unless one of the named words
says so (R146). -/
theorem readsErased_iff {w : HeaderWords} (hcheck : w.marker = Config.erased → w.label = Config.erased →
      w.generation = Config.erased ++ Config.erased → w.length = Config.erased → w.definedSteps = Config.erased →
      w.commit = Config.erased → w.check = none) : w.readsErased = true ↔
    w.marker = Config.erased ∧ w.label = Config.erased ∧ w.generation = Config.erased ++ Config.erased ∧
      w.length = Config.erased ∧ w.definedSteps = Config.erased ∧ w.commit = Config.erased := by
  simp only [HeaderWords.readsErased, Bool.and_eq_true, decide_eq_true_eq]
  constructor
  · rintro ⟨⟨⟨⟨⟨⟨hmarker, hlabel⟩, hgeneration⟩, hlength⟩, hdefined⟩, hcommit⟩, -⟩
    exact ⟨hmarker, hlabel, hgeneration, hlength, hdefined, hcommit⟩
  · rintro ⟨hmarker, hlabel, hgeneration, hlength, hdefined, hcommit⟩
    rw [hcheck hmarker hlabel hgeneration hlength hdefined hcommit]
    exact ⟨⟨⟨⟨⟨⟨hmarker, hlabel⟩, hgeneration⟩, hlength⟩, hdefined⟩, hcommit⟩, rfl⟩

/-- Settles O51: a changed word of an image, of a header and of a start-up copy, and the condition of a header. -/
theorem storedWordChangeIsFound : Obligations.StoredWordChangeIsFound := by
  refine ⟨fun s slot index flip => ⟨_, exec_storedWordChange _ flip s, ?_, fun a ha => ?_, fun w hflip hmatches => ?_, rfl⟩,
    fun s slot field flip w image hw hflip hcommitted hmatches => ?_, fun s copy field flip w r hw hflip hjudge => ?_,
    fun s slot copy hf sf flip => ⟨fun h => ?_, fun h => ?_⟩, fun w hcheck => ?_⟩
  · exact read_changed_same _ _ _
  · exact read_changed_other _ _ ha
  · refine matchesImage_unique hmatches fun heq => ?_
    have hword := congrArg (fun l : List Word => l[index.val]?) heq
    simp only [changeStoredWord] at hword
    rw [List.getElem?_eq_getElem (by simp), List.getElem?_eq_getElem (by simp),
      getElem_slice, getElem_slice, Option.some.injEq, read_changed_same] at hword
    exact xor_ne_self hflip _ hword
  · refine ⟨_, w.change field flip, (exec_storedWordChange _ flip s).trans (by rw [changeStoredWord, hw]),
      getElem_set_same _ _ _, headerChange_found field hflip hcommitted hmatches, rfl⟩
  · refine ⟨_, w.change field flip, (exec_storedWordChange _ flip s).trans (by rw [changeStoredWord, hw]),
      getElem_set_same _ _ _, startupChange_found field hflip hjudge, rfl⟩
  · rw [exec_storedWordChange, changeStoredWord]
    rcases h with h | h <;> rw [h]
  · rw [exec_storedWordChange, changeStoredWord]
    rcases h with h | h <;> rw [h]
  · have herased := readsErased_iff hcheck
    rw [HeaderSector.condition]
    exact if_congr herased rfl (if_congr (wellFormed_iff w) rfl rfl)

end Sys2Proof.Proofs
end

section
/-! Hardware reset and its end (O55). -/
namespace Sys2Proof.Proofs
open Sys2Proof.Machine

/-! ### What is cut off -/

/-- A part of a SAVE that is not programmed at all. -/
theorem unchanged_programs {slot : Fin 6} {b : Bank} {label : Word} {g : BitVec 32} {part : Nat} {s : State} :
    programsPart slot b label g part false s s.store.array :=
  ⟨fun _ _ => rfl, fun _ _ => rfl, fun _ _ => rfl, nofun, nofun, nofun, fun _ h => h, rfl⟩

/-- A header whose body alone is programmed is neither committed nor blank (R146, R164). -/
theorem condition_headerBody (b : Bank) (label : Word) (g : BitVec 32) :
    (HeaderSector.written (headerBody b label g)).condition ≠ .committed ∧
    (HeaderSector.written (headerBody b label g)).condition ≠ .blank := by
  have hcommit : Config.erased ≠ Config.commitWord := by decide
  have hmarker : Config.bodyMarker ≠ Config.erased := by decide
  rw [Ne, Ne, condition_eq_committed_iff, condition_written_eq_blank]
  refine ⟨fun h => hcommit h.2, fun h => hmarker ?_⟩
  simp only [HeaderWords.readsErased, Bool.and_eq_true, decide_eq_true_eq] at h
  obtain ⟨⟨⟨⟨⟨⟨h, -⟩, -⟩, -⟩, -⟩, -⟩, -⟩ := h
  exact h

/-- A program of a SAVE's part cut off (R164): the part in hand alone, a header never whole but for its commit word. -/
theorem cutOffProgram_leaves {slot : Fin 6} {b : Bank} {label : Word} {g : BitVec 32} {part : Nat} {s : State}
    (hpart : part ≤ 9) : ∃ verified,
    programsPart slot b label g part verified s (cutOffProgram slot b label g part s).store.array ∧
    (part = 0 → (((cutOffProgram slot b label g part s).store.array.headers[slot]).condition ≠ .committed ∧
      ((cutOffProgram slot b label g part s).store.array.headers[slot]).condition ≠ .blank)) ∧
    (part = 9 → (cutOffProgram slot b label g part s).store.array.headers[slot] = s.store.array.headers[slot] ∨
      ∃ w, s.store.array.headers[slot] = .written w ∧
        (cutOffProgram slot b label g part s).store.array.headers[slot] =
          .written { w with check := some (slotCheck b label g), commit := Config.commitWord }) := by
  have hspoiled : (s.store.array.headers.set slot .spoiled)[slot] = .spoiled := getElem_set_same _ _ _
  unfold cutOffProgram
  by_cases hwhole : Config.freeWhole s.freeCount = true
  · rw [if_pos hwhole]
    obtain ⟨a, heq, hprograms⟩ := programPart_programs (slot := slot) (b := b) (label := label) (g := g) (s := s) hpart
    refine ⟨true, heq ▸ hprograms, fun h0 => ?_, fun h9 => ?_⟩
    · obtain ⟨-, -, -, hbody, -⟩ := hprograms
      rw [heq]
      change (a.headers[slot]).condition ≠ .committed ∧ (a.headers[slot]).condition ≠ .blank
      rw [hbody rfl h0]
      exact condition_headerBody b label g
    · have hslot : (takeFree (programPart slot b label g part s)).store.array.headers[slot] =
          (s.store.array.headers[slot]).commitWith (slotCheck b label g) := by
        subst h9
        exact getElem_set_same _ _ _
      rw [hslot]
      cases hheader : s.store.array.headers[slot] with
      | blank => exact .inl rfl
      | spoiled => exact .inl rfl
      | written w => exact .inr ⟨w, rfl, rfl⟩
  rw [if_neg hwhole]
  by_cases h0 : part = 0
  · rw [if_pos h0]
    refine ⟨false, headerPart_programs .spoiled (.inl h0) false nofun nofun fun _ _ => by decide, fun _ => ?_, fun h9 => ?_⟩
    · exact (congrArg (fun h : HeaderSector => h.condition ≠ .committed ∧ h.condition ≠ .blank) hspoiled).mpr (by decide)
    · omega
  by_cases h9 : part < 9
  · rw [if_neg h0, if_pos h9]
    exact ⟨false, imagePart_programs _ (by omega) (by omega) (length_freeSector _) false nofun, fun h => absurd h h0,
      fun h => absurd h9 (by omega)⟩
  · rw [if_neg h0, if_neg h9]
    exact ⟨false, unchanged_programs, fun h => absurd h h0, fun _ => .inl rfl⟩

/-- An erase attempt cut off (R164): the sector in hand alone. -/
theorem cutOffErase_leaves (slot : Fin 6) (sector : Nat) (s : State) :
    (cutOffErase slot sector s).store.array.startups = s.store.array.startups ∧
    (∀ j : Fin 6, (j ≠ slot ∨ sector ≠ 0) →
      (cutOffErase slot sector s).store.array.headers[j] = s.store.array.headers[j]) ∧
    (sector = 0 → (cutOffErase slot sector s).store.array.headers[slot] = s.store.array.headers[slot] ∨
      ((cutOffErase slot sector s).store.array.headers[slot]).condition = .blank ∨
      ((cutOffErase slot sector s).store.array.headers[slot]).condition = .unreadable) ∧
    (∀ a : Nat, (sector = 0 ∨ a < imageBase slot sector ∨ imageBase slot sector + 512 ≤ a) →
      (cutOffErase slot sector s).store.array.images.read a = s.store.array.images.read a) := by
  have hcondition (h : HeaderSector) : ((s.store.array.headers.set slot h)[slot]).condition = h.condition :=
    congrArg _ (getElem_set_same _ _ _)
  unfold cutOffErase
  by_cases h0 : sector = 0
  · rw [if_pos h0]
    have hother (h : HeaderSector) (j : Fin 6) (hj : j ≠ slot ∨ sector ≠ 0) :
        (s.store.array.headers.set slot h)[j] = s.store.array.headers[j] :=
      getElem_set_other _ _ (hj.resolve_right (not_not.mpr h0))
    by_cases hwhole : Config.freeWhole s.freeCount = true
    · rw [if_pos hwhole]
      exact ⟨rfl, hother _, fun _ => .inr (.inl (hcondition .blank)), fun _ _ => rfl⟩
    by_cases hkept : Config.freeKept s.freeCount = true
    · rw [if_neg hwhole, if_pos hkept]
      exact ⟨rfl, fun _ _ => rfl, fun _ => .inl rfl, fun _ _ => rfl⟩
    · rw [if_neg hwhole, if_neg hkept]
      exact ⟨rfl, hother _, fun _ => .inr (.inr (hcondition .spoiled)), fun _ _ => rfl⟩
  · rw [if_neg h0]
    refine ⟨rfl, fun _ _ => rfl, fun h => absurd h h0, fun a ha => ?_⟩
    exact Memory.read_program_outside _ _ _ _ (by simpa [h0] using ha)

/-- A sector step of a SET_STARTUP cut off (R164): the target's copy is invalid, or the new one complete. -/
theorem cutOffStartup_leaves (boot : Option (Fin 6)) (auto : Autorun) (target : Fin 2) (s : State)
    (progress : StartupProgress) :
    (cutOffStartup boot auto target s progress).store.array.headers = s.store.array.headers ∧
    (cutOffStartup boot auto target s progress).store.array.images = s.store.array.images ∧
    (∀ copy : Fin 2, copy ≠ target →
      (cutOffStartup boot auto target s progress).store.array.startups[copy] = s.store.array.startups[copy]) ∧
    (((cutOffStartup boot auto target s progress).store.array.startups[target]).judge = none ∨
      (progress = .programming ∧ ((cutOffStartup boot auto target s progress).store.array.startups[target]).judge =
        some (newStartup boot auto s))) := by
  have hjudge (sector : StartupSector) : ((s.store.array.startups.set target sector)[target]).judge = sector.judge :=
    congrArg _ (getElem_set_same _ _ _)
  cases progress with
  | erasing failed =>
    refine ⟨rfl, rfl, fun copy hcopy => getElem_set_other _ _ hcopy, .inl ((hjudge _).trans ?_)⟩
    split_ifs <;> rfl
  | programming =>
    refine ⟨rfl, rfl, fun copy hcopy => getElem_set_other _ _ hcopy, ?_⟩
    by_cases hwhole : Config.freeWhole s.freeCount = true
    · exact .inr ⟨rfl, (hjudge _).trans (by rw [if_pos hwhole, judge_startupSector])⟩
    · exact .inl ((hjudge _).trans (by rw [if_neg hwhole]; rfl))

/-! ### The end of hardware reset -/

/-- With no step in progress a lock only sets the channel's lock and CHANNEL_FAULT (R97). -/
theorem lockChannel_idle {s : State} (hstate : s.seq.state = .stopped) (hcontext : s.seq.context = none) (n : Fin 8) :
    lockChannel n s = raise channelFaultFlag (setChannel n { s.channels.channel[n] with locked := true, gate := none } s) := by
  rcases lockChannel_cases n s with ⟨-, hne, -⟩ | ⟨-, heq⟩
  · exact absurd hstate hne
  · rw [heq]
    simp [lockedMark, noteFault, afterGateClose, hcontext]

/-- What the walk over the fault lines leaves of the channels (R101). -/
def faultsLocked (l : List (Fin 8)) (s t : State) : Prop :=
  (∀ i : Fin 8, t.channels.channel[i] = if i ∈ l ∧ (s.channels.channel[i]).faultLine = true then
      { s.channels.channel[i] with locked := true, gate := none }
    else s.channels.channel[i]) ∧
  t.status.flags = (if ∃ i ∈ l, (s.channels.channel[i]).faultLine = true then s.status.flags ||| channelFaultFlag
    else s.status.flags) ∧
  t = { s with channels := { s.channels with channel := t.channels.channel }, status := { s.status with flags := t.status.flags } }

theorem lockIfAsserted_idle {s : State} (hstate : s.seq.state = .stopped) (hcontext : s.seq.context = none) (n : Fin 8) :
    faultsLocked [n] s (lockIfAsserted s n) := by
  by_cases hfault : (s.channels.channel[n]).faultLine = true
  · rw [lockIfAsserted, if_pos hfault, lockChannel_idle hstate hcontext]
    refine ⟨fun i => (setChannel_channel n i _ s).trans ?_, (if_pos ⟨n, List.mem_singleton_self n, hfault⟩).symm, rfl⟩
    by_cases hi : i = n
    · subst hi
      rw [if_pos rfl, if_pos ⟨List.mem_singleton_self i, hfault⟩]
    · rw [if_neg hi, if_neg (c := i ∈ [n] ∧ (s.channels.channel[i]).faultLine = true) fun h => hi (List.mem_singleton.mp h.1)]
  · rw [lockIfAsserted, if_neg hfault]
    refine ⟨fun i => (if_neg fun h : i ∈ [n] ∧ (s.channels.channel[i]).faultLine = true =>
      hfault (List.mem_singleton.mp h.1 ▸ h.2)).symm, (if_neg ?_).symm, rfl⟩
    rintro ⟨i, hi, h⟩
    exact hfault (List.mem_singleton.mp hi ▸ h)

theorem faultsLocked_cons {n : Fin 8} {l : List (Fin 8)} {s u t : State} (hfirst : faultsLocked [n] s u)
    (hrest : faultsLocked l u t) : faultsLocked (n :: l) s t := by
  obtain ⟨hchannels, hflags, hframe⟩ := hfirst
  obtain ⟨hchannels', hflags', hframe'⟩ := hrest
  have hline (i : Fin 8) : (u.channels.channel[i]).faultLine = (s.channels.channel[i]).faultLine := by
    rw [hchannels i]
    split_ifs <;> rfl
  simp only [List.mem_singleton] at hchannels
  simp only [List.mem_singleton, exists_eq_left] at hflags
  refine ⟨fun i => (hchannels' i).trans ?_, hflags'.trans ?_, hframe'.trans (congrArg (fun v : State => { v with
    channels := { v.channels with channel := t.channels.channel }
    status := { v.status with flags := t.status.flags } }) hframe)⟩
  · rw [hline i, hchannels i]
    by_cases hn : i = n ∧ (s.channels.channel[i]).faultLine = true
    · rw [if_pos hn, if_pos (c := i ∈ n :: l ∧ (s.channels.channel[i]).faultLine = true)
        ⟨List.mem_cons.mpr (.inl hn.1), hn.2⟩, ite_self]
    · rw [if_neg hn]
      refine if_congr ⟨fun h => ⟨List.mem_cons_of_mem n h.1, h.2⟩, fun h => ⟨?_, h.2⟩⟩ rfl rfl
      exact (List.mem_cons.mp h.1).resolve_left fun heq => hn ⟨heq, h.2⟩
  · simp only [hline, hflags]
    by_cases hn : (s.channels.channel[n]).faultLine = true
    · rw [if_pos hn, if_pos (c := ∃ i ∈ n :: l, (s.channels.channel[i]).faultLine = true) ⟨n, List.mem_cons_self, hn⟩,
        BitVec.or_assoc, BitVec.or_self, ite_self]
    · rw [if_neg hn]
      refine if_congr ⟨fun ⟨i, hi, h⟩ => ⟨i, List.mem_cons_of_mem n hi, h⟩, fun ⟨i, hi, h⟩ => ⟨i, ?_, h⟩⟩ rfl rfl
      exact (List.mem_cons.mp hi).resolve_left fun heq => hn (heq ▸ h)

theorem foldl_lockIfAsserted_idle : ∀ (l : List (Fin 8)) {s : State}, s.seq.state = .stopped → s.seq.context = none →
    faultsLocked l s (l.foldl lockIfAsserted s)
  | [], s, _, _ => ⟨fun i => (if_neg fun h => List.not_mem_nil h.1).symm, (if_neg nofun).symm, rfl⟩
  | n :: l, s, hstate, hcontext => by
    have hfirst := lockIfAsserted_idle hstate hcontext n
    obtain ⟨-, -, hframe⟩ := lockIfAsserted_idle hstate hcontext n
    have hseq : (lockIfAsserted s n).seq = s.seq := (congrArg State.seq hframe :)
    exact faultsLocked_cons hfirst (foldl_lockIfAsserted_idle l (hseq ▸ hstate) (hseq ▸ hcontext))

theorem faultsLocked_all {s t : State} (h : faultsLocked allChannels s t) :
    (∀ i : Fin 8, t.channels.channel[i] = if (s.channels.channel[i]).faultLine = true then
        { s.channels.channel[i] with locked := true, gate := none }
      else s.channels.channel[i]) ∧
    t.status.flags = (if ∃ i : Fin 8, (s.channels.channel[i]).faultLine = true then s.status.flags ||| channelFaultFlag
      else s.status.flags) ∧
    t = { s with
      channels := { s.channels with channel := t.channels.channel }
      status := { s.status with flags := t.status.flags } } := by
  obtain ⟨hchannels, hflags, hframe⟩ := h
  refine ⟨fun i => (hchannels i).trans (if_congr (and_iff_right (mem_allChannels i)) rfl rfl),
    hflags.trans (if_congr ⟨fun ⟨i, _, hi⟩ => ⟨i, hi⟩, fun ⟨i, hi⟩ => ⟨i, mem_allChannels i, hi⟩⟩ rfl rfl), hframe⟩

theorem foldl_lockIfAsserted_none : ∀ (l : List (Fin 8)) {s : State},
    (∀ i : Fin 8, (s.channels.channel[i]).faultLine = false) → l.foldl lockIfAsserted s = s
  | [], _, _ => rfl
  | n :: l, s, h => by
    have hone : lockIfAsserted s n = s := if_neg (by rw [h n]; exact Bool.false_ne_true)
    rw [List.foldl_cons, hone]
    exact foldl_lockIfAsserted_none l h

theorem exec_resetEnd {s : State} (h : s.inReset = true) : exec .resetEnd s =
    .next (allChannels.foldl lockIfAsserted { s with inReset := false, store := { s.store with boot := .scanHeader 0 } }) :=
  congrArg Host.Outcome.next (if_pos h)

theorem cutOffStep_of_idle {s : State} (h : s.store.job = .idle ∨ loadInFlight s = true) : cutOffStep s = s := by
  unfold cutOffStep
  rcases h with hjob | hload
  · rw [hjob]
  · unfold loadInFlight at hload
    split at hload
    · next hjob => rw [hjob]
    · cases hload

theorem cutOffStep_of_erasing {s : State} {slot : Fin 6} {sector : Nat} (h : erasing slot sector s) :
    cutOffStep s = cutOffErase slot sector s := by
  rcases h with ⟨failed, hjob⟩ | ⟨source, bank, label, g, failed, hjob⟩ <;> simp only [cutOffStep, hjob]

/-- The array of a state after hardware reset is what the cut-off step leaves. -/
theorem hardwareReset_array (s : State) : (hardwareReset s).store.array = (cutOffStep s).store.array := rfl

/-- Settles O55: what hardware reset sets and cuts off, and what its end does. -/
theorem hardwareResetAndItsEnd : Obligations.HardwareResetAndItsEnd := by
  refine ⟨fun s => ⟨_, rfl, fun h => ?_, fun slot sector h => ?_,
      fun slot source bank label g part hjob hpart => ?_, fun boot auto target progress hjob => ?_, fun i => ?_, fun i => ?_,
      ?_⟩, fun s hreset hlines => ?_, fun s hreset hstate hcontext => ?_⟩
  · rw [hardwareReset_array, cutOffStep_of_idle h]
  · rw [hardwareReset_array, cutOffStep_of_erasing h]
    exact cutOffErase_leaves slot sector s
  · have heq : cutOffStep s = cutOffProgram slot (s.tables.bank bank) label g part s := by simp only [cutOffStep, hjob]
    rw [hardwareReset_array, heq]
    obtain ⟨verified, ⟨hheaders, hmiddle, himages, -, -, -, -, hstartups⟩, hbody, hcommit⟩ :=
      cutOffProgram_leaves (slot := slot) (b := s.tables.bank bank) (label := label) (g := g) (s := s) hpart
    refine ⟨hstartups, fun j hj => ?_, hbody, hcommit, himages⟩
    rcases hj with hj | ⟨hlow, hhigh⟩
    · exact hheaders j hj
    · rw [hmiddle hlow hhigh]
  · have heq : cutOffStep s = cutOffStartup boot auto target s progress := by simp only [cutOffStep, hjob]
    rw [hardwareReset_array, heq]
    exact cutOffStartup_leaves boot auto target s progress
  · rw [hardwareReset, cutOffStep_frame]
    simp [resetBlocks, TriggerUnit.reset, TriggerInput.reset]
  · exact hardwareReset_channel s i
  · rw [hardwareReset, cutOffStep_frame]
    rfl
  · rw [exec_resetEnd hreset, foldl_lockIfAsserted_none _
      (s := { s with inReset := false, store := { s.store with boot := .scanHeader 0 } }) hlines]
  · obtain ⟨t, ht, hlocked⟩ : ∃ t, exec .resetEnd s = .next t ∧
        faultsLocked allChannels { s with inReset := false, store := { s.store with boot := .scanHeader 0 } } t :=
      ⟨_, exec_resetEnd hreset, foldl_lockIfAsserted_idle allChannels hstate hcontext⟩
    exact ⟨t, ht, faultsLocked_all hlocked⟩

end Sys2Proof.Proofs
end

section
/-! The reading of a slot, by a LOAD or by the boot (R156). Nine sector reads run through the same progress and change Table
Memory in the same way, whoever makes them; what they read is said here once, for O49 and O50. -/
namespace Sys2Proof.Proofs
open Sys2Proof.Machine

/-! ### The words of a slot -/

/-- A range of words within a range of words. -/
theorem take_drop_slice (m : Memory) {a n skip k : Nat} (h : skip + k ≤ n) :
    ((m.slice a n).drop skip).take k = m.slice (a + skip) k := by
  obtain ⟨rest, rfl⟩ := Nat.exists_eq_add_of_le h
  rw [Nat.add_assoc, ← Memory.slice_append, ← Memory.slice_append, List.drop_left' (Memory.length_slice _ _ _),
    List.take_left' (Memory.length_slice _ _ _)]

theorem areaWords_slice (m : Memory) {a n i : Nat} (h : 28 * (i + 1) ≤ n) :
    areaWords (m.slice a n) i = m.slice (a + 28 * i) 28 := take_drop_slice m (by omega)

/-! ### The progress of a reading -/

/-- The progress of the reading of a slot after `k` sectors. -/
def progress (slot : Fin 6) (s : State) : Nat → LoadProgress
  | 0 => freshLoad slot
  | k + 1 => (progress slot s k).advance s

/-- Table Memory after one more sector. -/
def loadTables (p : LoadProgress) (s : State) (t : TableMemory) : TableMemory :=
  t.setBank t.active.other (loadedBank p s (t.bank t.active.other))

/-- Table Memory after `k` sectors of a slot. -/
def tablesRead (slot : Fin 6) (s : State) : Nat → TableMemory
  | 0 => s.tables
  | k + 1 => loadTables (progress slot s k) s (tablesRead slot s k)

theorem loadSector_eq (p : LoadProgress) (s : State) : loadSector p s = { s with tables := loadTables p s s.tables } := rfl

section
variable (slot : Fin 6) (s : State)

theorem progress_slot : ∀ k, (progress slot s k).slot = slot
  | 0 => rfl
  | k + 1 => by
    rw [progress, LoadProgress.advance]
    split_ifs <;> exact progress_slot k

theorem progress_sectorsRead : ∀ k, (progress slot s k).sectorsRead = k
  | 0 => rfl
  | k + 1 => by
    have hk := progress_sectorsRead k
    rw [progress, LoadProgress.advance]
    split_ifs with h0
    · rw [hk] at h0
      rw [h0]
    · exact congrArg (· + 1) hk

end

/-- An area that made its entry defined. -/
def areaDefined : AreaReading → Bool
  | .defined _ => true
  | .undefined => false
  | .illegal => false

section
variable {p : LoadProgress} (s : State) (h : p.sectorsRead ≠ 0)
include h

theorem advance_header : (p.advance s).header = p.header := by rw [LoadProgress.advance, if_neg h]

theorem advance_words : (p.advance s).words = p.words ++ nextSector p s := by rw [LoadProgress.advance, if_neg h]

theorem advance_mismatch : (p.advance s).mismatch = (p.mismatch ||
    ((arrivingAreas p).map fun i => readArea (areaWords (p.words ++ nextSector p s) i)).contains .illegal) := by
  rw [LoadProgress.advance, if_neg h]

theorem advance_definedAreas : (p.advance s).definedAreas = p.definedAreas +
    ((arrivingAreas p).map fun i => readArea (areaWords (p.words ++ nextSector p s) i)).countP areaDefined := by
  rw [LoadProgress.advance, if_neg h]
  exact congrArg (p.definedAreas + ·) (List.countP_congr fun r _ => by cases r <;> rfl)

end

section
variable (slot : Fin 6) (s : State)

theorem progress_read_ne (k : Nat) : (progress slot s (k + 1)).sectorsRead ≠ 0 := by
  rw [progress_sectorsRead]
  exact k.succ_ne_zero

theorem progress_header : ∀ k, (progress slot s (k + 1)).header = s.store.array.headers[slot]
  | 0 => rfl
  | k + 1 => (advance_header s (progress_read_ne slot s k)).trans (progress_header k)

theorem nextSector_progress (k : Nat) :
    nextSector (progress slot s (k + 1)) s = s.store.array.images.slice (4096 * slot.val + 512 * k) 512 := by
  rw [nextSector, progress_sectorsRead, progress_slot, imageBase, Nat.add_sub_cancel]

theorem progress_words : ∀ k, (progress slot s (k + 1)).words = s.store.array.images.slice (4096 * slot.val) (512 * k)
  | 0 => rfl
  | k + 1 => by
    rw [Nat.mul_succ, ← Memory.slice_append, ← progress_words k, ← nextSector_progress]
    exact advance_words s (progress_read_ne slot s k)

end

/-! ### Table Memory -/

theorem loadTables_frame (p : LoadProgress) (s : State) (t : TableMemory) :
    (loadTables p s t).active = t.active ∧ (loadTables p s t).commitPending = t.commitPending ∧
    (loadTables p s t).incomplete = t.incomplete ∧ (loadTables p s t).bank t.active = t.bank t.active ∧
    (loadTables p s t).bank t.active.other = loadedBank p s (t.bank t.active.other) := by
  refine ⟨setBank_active _ _ _, setBank_commitPending _ _ _, ?_, bank_setBank_other _ _ _, bank_setBank _ _ _⟩
  cases h : t.active <;> simp [loadTables, TableMemory.setBank, h, BankId.other]

/-- Only the staging bank changes while a slot is read. -/
theorem tablesRead_frame (slot : Fin 6) (s : State) : ∀ k,
    (tablesRead slot s k).active = s.tables.active ∧ (tablesRead slot s k).commitPending = s.tables.commitPending ∧
    (tablesRead slot s k).incomplete = s.tables.incomplete ∧
    (tablesRead slot s k).bank s.tables.active = s.tables.bank s.tables.active
  | 0 => ⟨rfl, rfl, rfl, rfl⟩
  | k + 1 => by
    obtain ⟨hactive, hpending, hincomplete, hbank⟩ := tablesRead_frame slot s k
    obtain ⟨hactive', hpending', hincomplete', hbank', -⟩ := loadTables_frame (progress slot s k) s (tablesRead slot s k)
    rw [hactive] at hbank'
    exact ⟨hactive'.trans hactive, hpending'.trans hpending, hincomplete'.trans hincomplete, hbank'.trans hbank⟩

/-- The staging bank after `k` sectors. -/
def bankRead (slot : Fin 6) (s : State) (k : Nat) : Bank := (tablesRead slot s k).bank s.tables.active.other

theorem bankRead_zero (slot : Fin 6) (s : State) : bankRead slot s 0 = stagingBank s := rfl

theorem bankRead_succ (slot : Fin 6) (s : State) (k : Nat) :
    bankRead slot s (k + 1) = loadedBank (progress slot s k) s (bankRead slot s k) := by
  obtain ⟨hactive, -⟩ := tablesRead_frame slot s k
  obtain ⟨-, -, -, -, hbank⟩ := loadTables_frame (progress slot s k) s (tablesRead slot s k)
  rw [hactive] at hbank
  exact hbank

/-- Areas are written at their indices, and no other entry changes (R156, log 11). -/
theorem writeAreas_getElem (image : List Word) (i : Fin 128) : ∀ (areas : List Nat) (steps : Vector (Option StepRecord) 128),
    (writeAreas image steps areas)[i] = if i.val ∈ areas then areaEntry (areaWords image i.val) else steps[i]
  | [], _ => rfl
  | n :: areas, steps => by
    have hrec := writeAreas_getElem image i areas (if h : n < 128 then steps.set n (areaEntry (areaWords image n)) else steps)
    rw [writeAreas, List.foldl_cons]
    refine hrec.trans ?_
    by_cases hin : i.val ∈ areas
    · rw [if_pos hin, if_pos (List.mem_cons_of_mem n hin)]
    rw [if_neg hin]
    by_cases hn : i.val = n
    · subst hn
      rw [if_pos List.mem_cons_self, dif_pos i.isLt]
      exact Vector.getElem_set_self i.isLt
    · rw [if_neg fun h => (List.mem_cons.mp h).elim hn hin]
      split_ifs with h
      · exact Vector.getElem_set_ne h i.isLt fun heq => hn heq.symm
      · rfl

/-- The areas whose last words arrive. -/
theorem mem_newAreas {old new i : Nat} : i ∈ newAreas old new ↔ old < 28 * (i + 1) ∧ 28 * (i + 1) ≤ new := by
  rw [newAreas, List.mem_range'_1]
  omega

end Sys2Proof.Proofs
end

section
/-! The reading of a slot that holds a saved bank restores the bank (R145, R156). -/
namespace Sys2Proof.Proofs
open Sys2Proof.Machine

/-! ### The image of a bank, area by area -/

/-- The Step Table entry at an index, UNDEFINED beyond the table. -/
def entryAt (b : Bank) (i : Nat) : Option StepRecord := if h : i < 128 then b.steps[i] else none

theorem drop_take_flatMap {α : Type} {f : α → List Word} {n : Nat} {rest : List Word} : ∀ {es : List α} {i : Nat}
    (h : i < es.length), (∀ e ∈ es, (f e).length = n) → ((es.flatMap f ++ rest).drop (n * i)).take n = f es[i]
  | e :: es, 0, _, hlength => by
    rw [Nat.mul_zero, List.drop_zero, List.flatMap_cons, List.append_assoc, List.take_left' (hlength e List.mem_cons_self)]
    rfl
  | e :: es, i + 1, h, hlength => by
    have hrec := drop_take_flatMap (rest := rest) (Nat.lt_of_succ_lt_succ h) fun x hx => hlength x (List.mem_cons_of_mem e hx)
    rw [Nat.mul_succ, Nat.add_comm, ← List.drop_drop, List.flatMap_cons, List.append_assoc,
      List.drop_left' (hlength e List.mem_cons_self), hrec]
    rfl

section
variable {b : Bank} (hb : b.wf)
include hb

theorem steps_wf : ∀ e ∈ b.steps.toList, ∀ r ∈ e, r.wf = true := by
  intro e he r hr
  obtain ⟨i, hi, rfl⟩ := Vector.getElem_of_mem (Vector.mem_toList_iff.mp he)
  obtain ⟨hsteps, -⟩ := hb
  exact hsteps ⟨i, hi⟩ r hr

theorem wf_entry (i : Fin 128) : ∀ r ∈ b.steps[i], r.wf = true := by
  obtain ⟨hsteps, -⟩ := hb
  exact hsteps i

theorem order_le : b.order.length ≤ 512 := by
  obtain ⟨-, horder⟩ := hb
  exact horder

/-- The words of step area `i` of a bank's image are those of its entry (R145). -/
theorem imageArea (i : Fin 128) : areaWords (imageWords b) i.val = stepArea b.steps[i] := by
  have hi : i.val < b.steps.toList.length := by simp
  have harea := drop_take_flatMap (rest := b.order.map encodeOrder ++ List.replicate (512 - b.order.length) 0) hi
    fun e he => length_stepArea (steps_wf hb e he)
  exact harea.trans (by simp)

/-- The words behind the step areas are those of the Order List, filled up with 0 (R145). -/
theorem imageOrder :
    (imageWords b).drop 3584 = b.order.map encodeOrder ++ List.replicate (512 - b.order.length) (0 : Word) := by
  have hlength := length_flatMap_stepArea b.steps.toList (steps_wf hb)
  rw [Vector.length_toList] at hlength
  exact List.drop_left' hlength

end

/-! ### What a step area reads as -/

theorem encodeHeader_ne_erased {r : StepRecord} (h : r.wf = true) : encodeHeader r ≠ 0xFFFF := by
  intro heq
  obtain ⟨hchannels, hsyncs⟩ := StepRecord.wf_lengths h
  have htoNat := congrArg (fun w : Word => w.toNat % 256) heq
  simp only [toNat_encodeHeader h] at htoNat
  have hall : (0xFFFF : Word).toNat % 256 = 255 := by decide
  omega

/-- What the area of a Step Table entry reads as (R156). -/
def readingOf : Option StepRecord → AreaReading
  | none => .undefined
  | some r => .defined r

theorem readArea_stepArea {e : Option StepRecord} (h : ∀ r ∈ e, r.wf = true) : readArea (stepArea e) = readingOf e := by
  cases e with
  | none => rfl
  | some r =>
    have hwf := h r rfl
    have hhead : (stepArea (some r)).head? = some (encodeHeader r) := rfl
    have hne : (some (encodeHeader r) : Option Word) ≠ some 0xFFFF := fun heq =>
      encodeHeader_ne_erased hwf (Option.some.inj heq)
    have hdecoded : decodeRecord (stepArea (some r)) = .ok r := decodeRecord_encode hwf _
    rw [readArea, hhead, if_neg hne, hdecoded]
    rfl

theorem areaEntry_stepArea {e : Option StepRecord} (h : ∀ r ∈ e, r.wf = true) : areaEntry (stepArea e) = e := by
  rw [areaEntry, readArea_stepArea h]
  cases e <;> rfl

theorem areaDefined_readingOf (e : Option StepRecord) : areaDefined (readingOf e) = e.isSome := by cases e <;> rfl

/-! ### The reading of a saved bank -/

section
variable {slot : Fin 6} {b : Bank} {s : State} (hb : b.wf)
  (himage : s.store.array.images.slice (4096 * slot.val) 4096 = imageWords b)
include hb himage

theorem areaWords_saved {n : Nat} {i : Fin 128} (hlow : 28 * (i.val + 1) ≤ n) (hhigh : n ≤ 4096) :
    areaWords (s.store.array.images.slice (4096 * slot.val) n) i.val = stepArea b.steps[i] := by
  rw [areaWords_slice _ hlow, ← imageArea hb, ← himage, areaWords_slice _ (hlow.trans hhigh)]

/-- The readings of the areas that a sector completes are those of the bank's entries. -/
theorem readings_saved {k : Nat} (hk : k < 7) :
    ((arrivingAreas (progress slot s (k + 1))).map fun i => readArea (areaWords
      ((progress slot s (k + 1)).words ++ nextSector (progress slot s (k + 1)) s) i)) =
    (newAreas (512 * k) (512 * (k + 1))).map fun i => readingOf (entryAt b i) := by
  have hread := progress_sectorsRead slot s (k + 1)
  rw [arrivingAreas, hread, if_pos (by omega), progress_words, nextSector_progress, Memory.slice_append,
    Memory.length_slice, ← Nat.mul_succ]
  refine List.map_congr_left fun i hi => ?_
  obtain ⟨-, hnew⟩ := mem_newAreas.mp hi
  have hlt : i < 128 := by omega
  rw [areaWords_saved hb himage (i := ⟨i, hlt⟩) hnew (by omega), readArea_stepArea (wf_entry hb ⟨i, hlt⟩), entryAt,
    dif_pos hlt]
  rfl

/-- A saved bank has no area that is marked (R156). -/
theorem progress_mismatch : ∀ k, k ≤ 8 → (progress slot s (k + 1)).mismatch = false
  | 0, _ => rfl
  | k + 1, hk => by
    rw [progress, advance_mismatch s (progress_read_ne slot s k), progress_mismatch k (by omega), Bool.false_or]
    by_cases hlast : k = 7
    · subst hlast
      rw [arrivingAreas, progress_sectorsRead, if_neg (by decide)]
      rfl
    · rw [readings_saved hb himage (by omega), Bool.eq_false_iff, Ne, List.contains_iff_mem]
      intro hmem
      obtain ⟨i, -, hi⟩ := List.mem_map.mp hmem
      cases hentry : entryAt b i <;> rw [hentry] at hi <;> cases hi

/-- The areas that have made their entries defined are those of the bank's defined steps. -/
theorem progress_definedAreas : ∀ k, k ≤ 7 →
    (progress slot s (k + 1)).definedAreas = (List.range (512 * k / 28)).countP fun i => (entryAt b i).isSome
  | 0, _ => rfl
  | k + 1, hk => by
    have hsplit : List.range (512 * (k + 1) / 28) =
        List.range (512 * k / 28) ++ newAreas (512 * k) (512 * (k + 1)) := by
      have hle : 512 * k / 28 ≤ 512 * (k + 1) / 28 := Nat.div_le_div_right (by omega)
      have happend := List.range'_append_1 (s := 0) (m := 512 * k / 28) (n := 512 * (k + 1) / 28 - 512 * k / 28)
      rw [Nat.zero_add, Nat.add_sub_cancel' hle] at happend
      rw [newAreas, List.range_eq_range', List.range_eq_range', happend]
    rw [progress, advance_definedAreas s (progress_read_ne slot s k), progress_definedAreas k (by omega),
      readings_saved hb himage (by omega), hsplit, List.countP_append, List.countP_map]
    exact congrArg _ (List.countP_congr fun i _ => by rw [Function.comp, areaDefined_readingOf])

/-- The staging steps after the header and `k` image sectors: those whose areas have arrived are the saved bank's. -/
theorem bankRead_steps : ∀ k, k ≤ 7 → ∀ i : Fin 128, (bankRead slot s (k + 1)).steps[i] =
    if 28 * (i.val + 1) ≤ 512 * k then b.steps[i] else (stagingBank s).steps[i]
  | 0, _, i => by
    rw [if_neg (by omega), bankRead_succ]
    rfl
  | k + 1, hk, i => by
    have hsteps : (bankRead slot s (k + 2)).steps = writeAreas (s.store.array.images.slice (4096 * slot.val) (512 * (k + 1)))
        (bankRead slot s (k + 1)).steps (newAreas (512 * k) (512 * (k + 1))) := by
      rw [bankRead_succ, loadedBank, if_neg (progress_read_ne slot s k), progress_sectorsRead, if_pos (by omega),
        progress_words, nextSector_progress, Memory.slice_append, ← Nat.mul_succ, arrivingAreas, progress_sectorsRead,
        if_pos (by omega), progress_words, Memory.length_slice, ← Nat.mul_succ]
    rw [hsteps, writeAreas_getElem, bankRead_steps k (by omega) i]
    by_cases hnew : i.val ∈ newAreas (512 * k) (512 * (k + 1))
    · obtain ⟨-, harrived⟩ := mem_newAreas.mp hnew
      rw [if_pos hnew, if_pos harrived, areaWords_saved hb himage harrived (by omega), areaEntry_stepArea (wf_entry hb i)]
    · rw [if_neg hnew]
      rw [mem_newAreas] at hnew
      refine if_congr ?_ rfl rfl
      omega

/-- The eighth image sector brings the Order List, and the bank is the saved one. -/
theorem bankRead_saved {label : Word} {g : BitVec 32} {c : Option SlotCheck} {w : Word}
    (hheader : s.store.array.headers[slot] = .written { headerBody b label g with check := c, commit := w }) :
    bankRead slot s 9 = b := by
  have hsteps : (bankRead slot s 8).steps = b.steps := by
    refine Vector.ext fun i hi => ?_
    have harrived : 28 * (i + 1) ≤ 512 * 7 := by omega
    exact (bankRead_steps hb himage 7 (Nat.le_refl 7) ⟨i, hi⟩).trans (if_pos harrived)
  have horder := order_le hb
  have hlength : headerLength (progress slot s 8).header = b.order.length := by
    rw [progress_header, hheader]
    exact toNat_word (by omega)
  have hwords : nextSector (progress slot s 8) s =
      b.order.map encodeOrder ++ List.replicate (512 - b.order.length) (0 : Word) := by
    rw [nextSector_progress, ← imageOrder hb, ← himage]
    have hrest := take_drop_slice s.store.array.images (a := 4096 * slot.val) (n := 4096) (skip := 3584) (k := 512) (by omega)
    rw [← hrest]
    exact List.take_of_length_le (by simp)
  rw [bankRead_succ, loadedBank, if_neg (progress_read_ne slot s 7), progress_sectorsRead, if_neg (by decide), hlength,
    if_pos horder, hwords, hsteps, List.take_left' (List.length_map _), List.map_map]
  have hdecode : decodeOrder ∘ encodeOrder = id := funext decodeOrder_encode
  rw [hdecode, List.map_id]

/-- The saved bank's reading matches (R156). -/
theorem progress_matched {label : Word} {g : BitVec 32}
    (hheader : s.store.array.headers[slot] =
      .written { headerBody b label g with check := some (slotCheck b label g), commit := Config.commitWord }) :
    readingMatches (progress slot s 8) (imageWords b) := by
  have hdefined : b.definedSteps = (List.range 128).countP fun i => (entryAt b i).isSome := by
    have hlist : b.steps.toList = (List.range 128).map (entryAt b) := by
      refine List.ext_getElem (by simp) fun i hi _ => ?_
      have hlt : i < 128 := by simpa using hi
      simp [entryAt, hlt]
    rw [Bank.definedSteps, hlist, List.countP_map]
    rfl
  have hcount : b.definedSteps ≤ 128 := by
    rw [hdefined]
    exact List.countP_le_length.trans_eq List.length_range
  have hareas := progress_definedAreas hb himage 7 (Nat.le_refl 7)
  have hmismatch := progress_mismatch hb himage 7 (by decide)
  have horder := order_le hb
  have hformed : (headerBody b label g).wellFormed = true :=
    (wellFormed_iff _).mpr ⟨rfl, (toNat_word (n := b.order.length) (by omega)).trans_le horder,
      (toNat_word (n := b.definedSteps) (by omega)).trans_le hcount⟩
  obtain ⟨hcondition, hmatches⟩ := committed_matches (b := b) (label := label) (g := g) hformed rfl rfl rfl rfl
  refine ⟨_, (progress_header slot s 7).trans hheader, hcondition, hmatches, hmismatch, hareas.trans ?_⟩
  exact hdefined.symm.trans (toNat_word (n := b.definedSteps) (by omega)).symm

end

end Sys2Proof.Proofs
end

section
/-! The sector reads of a LOAD (O49). -/
namespace Sys2Proof.Proofs
open Sys2Proof.Machine

/-! ### Runs -/

theorem runAll_append {ds : List Instr} {t : State} : ∀ {cs : List Instr} {s : State}, runAll cs s = .next t →
    runAll (cs ++ ds) s = runAll ds t
  | [], _, h => by
    obtain rfl := Host.Outcome.next.inj h
    rfl
  | c :: cs, s, h => by
    cases hexec : exec c s with
    | next u =>
      rw [runAll_cons hexec] at h
      rw [List.cons_append, runAll_cons hexec]
      exact runAll_append h
    | fault f =>
      rw [runAll, hexec] at h
      cases h
    | refused r =>
      rw [runAll, hexec] at h
      cases h

theorem runAll_replicate_succ {c : Instr} {k : Nat} {s t : State} (h : runAll (List.replicate k c) s = .next t) :
    runAll (List.replicate (k + 1) c) s = exec c t := by
  rw [List.replicate_succ', runAll_append h, runAll]
  cases exec c t <;> rfl

/-! ### One sector read of a LOAD -/

theorem exec_sectorReadDone {s : State} (hs : s.inReset = false) : exec .sectorReadDone s = .next (sectorRead s) :=
  congrArg Host.Outcome.next (outOfReset_released hs)

theorem exec_loadRead {s : State} {p : LoadProgress} (hs : s.inReset = false) (hboot : s.store.boot = .done)
    (hjob : s.store.job = .load p) : exec .sectorReadDone s = .next (loadStep p s) := by
  rw [exec_sectorReadDone hs]
  simp only [sectorRead, hboot, hjob]

theorem matched_iff (p : LoadProgress) : p.matched = true ↔ readingMatches p p.words := by
  cases hheader : p.header <;> simp [LoadProgress.matched, readingMatches, hheader, and_assoc]

/-- After its last sector a reading has matched when it matches with that sector's words (R156). -/
theorem matched_advance_iff {p : LoadProgress} {s : State} (h : p.sectorsRead = 8) : (p.advance s).matched = true ↔
    readingMatches p (p.words ++ s.store.array.images.slice (imageBase p.slot 8) 512) := by
  have hne : p.sectorsRead ≠ 0 := by omega
  have hareas : arrivingAreas p = [] := if_neg (by omega)
  have hmismatch : (p.advance s).mismatch = p.mismatch := by
    rw [advance_mismatch s hne, hareas]
    exact Bool.or_false _
  have hdefined : (p.advance s).definedAreas = p.definedAreas := by
    rw [advance_definedAreas s hne, hareas]
    rfl
  rw [matched_iff, readingMatches, advance_header s hne, advance_words s hne, hmismatch, hdefined, nextSector, h]

/-- The last sector read of a LOAD (R156). -/
theorem loadStep_last {s : State} {p : LoadProgress} (h : p.sectorsRead = 8) : loadStep p s =
    if (p.advance s).matched = true then endOperation .ok (clearIncomplete (loadSector p s))
    else endWithSlot p.slot .damaged .checkFailed (loadSector p s) := by
  simp only [loadStep, if_pos h.ge]

/-- The banks after one sector: the active one as it was, and the staging one as the sector makes it. -/
theorem loadSector_banks (p : LoadProgress) (s : State) :
    activeBank (loadSector p s) = activeBank s ∧ stagingBank (loadSector p s) = loadedBank p s (stagingBank s) ∧
    (loadSector p s).tables.active = s.tables.active ∧
    (loadSector p s).tables.commitPending = s.tables.commitPending ∧
    (loadSector p s).tables.incomplete = s.tables.incomplete := by
  obtain ⟨hactive, hpending, hincomplete, -, -⟩ := loadTables_frame p s s.tables
  exact ⟨activeBank_setStaging _ _, stagingBank_setStaging _ _, hactive, hpending, hincomplete⟩

/-! ### A whole LOAD -/

/-- The state after `k` sector reads of a LOAD with no abort pending. -/
def loadState (slot : Fin 6) (s : State) (k : Nat) : State :=
  setJob (.load (progress slot s k)) { s with tables := tablesRead slot s k }

section
variable {s : State} {slot : Fin 6} (hs : s.inReset = false) (hboot : s.store.boot = .done)
include hs hboot

theorem exec_loadState (k : Nat) :
    exec .sectorReadDone (loadState slot s k) = .next (loadStep (progress slot s k) (loadState slot s k)) :=
  exec_loadRead hs hboot rfl

theorem loadRun (hjob : s.store.job = .load (freshLoad slot)) (habort : s.store.abortPending = false) : ∀ k, k ≤ 8 →
    runAll (List.replicate k .sectorReadDone) s = .next (loadState slot s k)
  | 0, _ => by
    have hstart : loadState slot s 0 = s := by
      simp only [loadState, setJob, progress, tablesRead, ← hjob]
    rw [hstart]
    rfl
  | k + 1, hk => by
    have hmore : ¬8 ≤ (progress slot s k).sectorsRead := by
      rw [progress_sectorsRead]
      omega
    rw [runAll_replicate_succ (loadRun hjob habort k (by omega)), exec_loadState hs hboot]
    exact congrArg Host.Outcome.next ((if_neg hmore).trans (if_neg (habort ▸ Bool.false_ne_true)))

end

/-- The areas that a LOAD's sector does not complete keep their entries (log 11). -/
theorem loadedBank_keeps {p : LoadProgress} {s : State} {b : Bank} (h : p.sectorsRead < 8) :
    (loadedBank p s b).order = b.order ∧
    ∀ i : Fin 128, (28 * (i.val + 1) ≤ p.words.length ∨ p.words.length + 512 < 28 * (i.val + 1)) →
      (loadedBank p s b).steps[i] = b.steps[i] := by
  rw [loadedBank]
  by_cases h0 : p.sectorsRead = 0
  · rw [if_pos h0]
    exact ⟨rfl, fun _ _ => rfl⟩
  · rw [if_neg h0, if_pos (Nat.le_of_lt_succ h), arrivingAreas, if_pos (Nat.le_of_lt_succ h)]
    refine ⟨rfl, fun i hi => (writeAreas_getElem _ i _ _).trans (if_neg ?_)⟩
    rw [mem_newAreas]
    omega

theorem loadSector_first {p : LoadProgress} (h : p.sectorsRead = 0) (s : State) : (loadSector p s).tables = s.tables := by
  change s.tables.setBank s.tables.active.other (loadedBank p s (s.tables.bank s.tables.active.other)) = s.tables
  rw [loadedBank, if_pos h]
  cases hactive : s.tables.active <;> rfl

/-- Settles O49: a LOAD of a saved bank, the last read of a LOAD, and a LOAD that is aborted. -/
theorem loadRestoresSavedBank : Obligations.LoadRestoresSavedBank := by
  refine ⟨fun s slot b label g hs hboot hb hjob habort ⟨hheader, himage⟩ => ?_,
    fun s p words hs hboot hjob hlast hwords => ⟨_, exec_loadRead hs hboot hjob, ?_⟩,
    fun s p hs hboot hjob hmore habort => ⟨_, exec_loadRead hs hboot hjob, ?_⟩⟩
  · have hrun := runAll_replicate_succ (loadRun hs hboot hjob habort 8 (Nat.le_refl 8))
    have hmatched : ((progress slot s 8).advance s).matched = true := by
      rw [matched_advance_iff (progress_sectorsRead slot s 8), progress_words, progress_slot, imageBase, Memory.slice_append,
        himage]
      exact progress_matched hb himage hheader
    rw [exec_loadState hs hboot, loadStep_last (progress_sectorsRead slot s 8)] at hrun
    obtain ⟨hactive, -, -, hbank⟩ := tablesRead_frame slot s 9
    have hstaging := bankRead_saved hb himage hheader
    refine ⟨_, hrun.trans (congrArg Host.Outcome.next (if_pos hmatched)), ?_⟩
    rw [endOperation_eq]
    refine ⟨?_, ?_, rfl, ⟨rfl, rfl, rfl, rfl, rfl⟩, rfl, rfl⟩
    · change (tablesRead slot s 9).bank (tablesRead slot s 9).active.other = b
      rw [hactive]
      exact hstaging
    · change (tablesRead slot s 9).bank (tablesRead slot s 9).active = activeBank s
      rw [hactive]
      exact hbank
  · obtain ⟨hactive, -, hrole, hpending, hincomplete⟩ := loadSector_banks p s
    have hmatched := matched_advance_iff (s := s) hlast
    rw [← hwords] at hmatched
    rw [loadStep_last hlast]
    by_cases hmatches : readingMatches p words
    · rw [if_pos (hmatched.mpr hmatches), endOperation_eq]
      exact ⟨hactive, hrole, hpending, fun _ => ⟨⟨rfl, rfl, rfl, rfl, rfl⟩, rfl, rfl⟩, fun h => absurd hmatches h, rfl⟩
    · rw [if_neg (hmatched.not.mpr hmatches), endWithSlot_eq]
      exact ⟨hactive, hrole, hpending, fun h => absurd h hmatches,
        fun _ => ⟨⟨rfl, rfl, rfl, rfl, rfl⟩, hincomplete, rfl⟩, rfl⟩
  · obtain ⟨hactive, hstaging, hrole, hpending, hincomplete⟩ := loadSector_banks p s
    obtain ⟨horder, hsteps⟩ := loadedBank_keeps (s := s) (b := stagingBank s) hmore
    have heq : loadStep p s = endOperation .aborted (loadSector p s) :=
      (if_neg (Nat.not_le.mpr hmore)).trans (if_pos habort)
    rw [heq, endOperation_eq]
    exact ⟨⟨rfl, rfl, rfl, rfl, rfl⟩, hactive, hrole, hpending, hincomplete, (congrArg Bank.order hstaging).trans horder,
      fun i hi => (congrArg (fun b : Bank => b.steps[i]) hstaging).trans (hsteps i hi), fun h0 => loadSector_first h0 s, rfl⟩

end Sys2Proof.Proofs
end

section
/-! The start-up scan and the boot (O50). -/
namespace Sys2Proof.Proofs
open Sys2Proof.Machine

/-! ### The scan -/

/-- Where the scan goes after a slot has been judged (R161). -/
theorem judgeSlot_eq (slot : Fin 6) (e : DirectoryEntry) (s : State) : judgeSlot slot e s = { s with
    store := { s.store with
      directory := s.store.directory.set slot e
      boot := if h : slot.val + 1 < 6 then .scanHeader ⟨slot.val + 1, h⟩ else .scanStartup54 } } := by
  rw [judgeSlot, nextInScan]
  split_ifs <;> rfl

/-- The scan of a header that is committed goes on with its image (R161). -/
theorem scanHeader_committed {s : State} {slot : Fin 6}
    (h : (s.store.array.headers[slot]).condition = .committed) : ∃ w, s.store.array.headers[slot] = .written w ∧
      scanHeader slot s = setBoot (.scanImage slot w 0 []) s := by
  cases hheader : s.store.array.headers[slot] with
  | blank =>
    rw [hheader] at h
    cases h
  | spoiled =>
    rw [hheader] at h
    cases h
  | written w =>
    rw [hheader] at h
    exact ⟨w, rfl, by simp only [scanHeader, hheader, h]⟩

/-- The scan of any other header judges its slot (R161). -/
theorem scanHeader_judged {s : State} {slot : Fin 6} (h : (s.store.array.headers[slot]).condition ≠ .committed) :
    scanHeader slot s = judgeSlot slot
      { state := if (s.store.array.headers[slot]).condition = .blank then .empty else .damaged, label := 0, generation := 0 }
      s := by
  cases hheader : s.store.array.headers[slot] with
  | blank => simp only [scanHeader, hheader, HeaderSector.condition, if_true, plainEntry]
  | spoiled => simp only [scanHeader, hheader, HeaderSector.condition, reduceCtorEq, if_false, plainEntry]
  | written w =>
    rw [hheader] at h
    cases hcondition : (HeaderSector.written w).condition with
    | committed => exact absurd hcondition h
    | blank => simp only [scanHeader, hheader, hcondition, if_true, plainEntry]
    | uncommitted => simp only [scanHeader, hheader, hcondition, reduceCtorEq, if_false, plainEntry]
    | unreadable => simp only [scanHeader, hheader, hcondition, reduceCtorEq, if_false, plainEntry]

section
variable {s : State} (hs : s.inReset = false)
include hs

theorem exec_scanHeader {slot : Fin 6} (hboot : s.store.boot = .scanHeader slot) :
    exec .sectorReadDone s = .next (scanHeader slot s) := by
  rw [exec_sectorReadDone hs]
  simp only [sectorRead, hboot]

theorem exec_scanImage {slot : Fin 6} {w : HeaderWords} {n : Nat} {words : List Word}
    (hboot : s.store.boot = .scanImage slot w n words) : exec .sectorReadDone s = .next (scanImage slot w n words s) := by
  rw [exec_sectorReadDone hs]
  simp only [sectorRead, hboot]

theorem exec_scanStartup54 (hboot : s.store.boot = .scanStartup54) :
    exec .sectorReadDone s = .next (setBoot (.scanStartup55 (s.store.array.startups[0]).judge) s) := by
  rw [exec_sectorReadDone hs]
  simp only [sectorRead, hboot]

theorem exec_scanStartup55 {first : Option StartupRecord} (hboot : s.store.boot = .scanStartup55 first) :
    exec .sectorReadDone s = .next (scanStartup55 first s) := by
  rw [exec_sectorReadDone hs]
  simp only [sectorRead, hboot]

theorem exec_bootRead {p : LoadProgress} (hboot : s.store.boot = .load p) :
    exec .sectorReadDone s = .next (bootLoadStep p s) := by
  rw [exec_sectorReadDone hs]
  simp only [sectorRead, hboot]

end

/-! ### The current start-up record -/

theorem newerIn55_iff (a b : BitVec 32) : newerIn55 a b = true ↔ b = a + 1 ∨ (a ≠ b + 1 ∧ a.toNat < b.toNat) := by
  unfold newerIn55
  by_cases hnext : b = a + 1
  · rw [if_pos hnext]
    exact iff_of_true rfl (.inl hnext)
  · rw [if_neg hnext]
    by_cases hprevious : a = b + 1
    · rw [if_pos hprevious]
      exact iff_of_false Bool.false_ne_true fun h => h.elim hnext fun h => h.1 hprevious
    · rw [if_neg hprevious, decide_eq_true_iff]
      exact ⟨fun h => .inr ⟨hprevious, h⟩, fun h => (h.resolve_left hnext).2⟩

/-- The boot on the current record goes by its slot's state (R162). -/
theorem startBoot_ends {s : State} {o : BootOutcome} (h : (o = .notSet ∧ s.store.current.bootSlot = none) ∨
    (o = .slotEmpty ∧ ∃ slot, s.store.current.bootSlot = some slot ∧ (s.store.directory[slot]).state = .empty) ∨
    (o = .slotDamaged ∧ ∃ slot, s.store.current.bootSlot = some slot ∧ (s.store.directory[slot]).state = .damaged)) :
    startBoot s = endBoot o s := by
  rcases h with ⟨rfl, hnone⟩ | ⟨rfl, slot, hslot, hstate⟩ | ⟨rfl, slot, hslot, hstate⟩
  · simp only [startBoot, hnone]
  · simp only [startBoot, hslot, hstate]
  · simp only [startBoot, hslot, hstate]

theorem startBoot_loads {s : State} {slot : Fin 6} (hslot : s.store.current.bootSlot = some slot)
    (hstate : (s.store.directory[slot]).state = .valid) :
    startBoot s = setBoot (.load (freshLoad slot)) { s with tables := { s.tables with incomplete := true } } := by
  simp only [startBoot, hslot, hstate]

/-! ### The boot's load -/

/-- The state after `k` sector reads of the boot's load. -/
def bootState (slot : Fin 6) (s : State) (k : Nat) : State :=
  setBoot (.load (progress slot s k)) { s with tables := tablesRead slot s k }

/-- The state after the last sector read of a boot's load that matched. -/
def bootLoaded (slot : Fin 6) (s : State) : State :=
  clearIncomplete (setBoot (.load (progress slot s 8)) { s with tables := tablesRead slot s 9 })

section
variable {s : State} {slot : Fin 6} (hs : s.inReset = false)
include hs

theorem exec_bootState (k : Nat) :
    exec .sectorReadDone (bootState slot s k) = .next (bootLoadStep (progress slot s k) (bootState slot s k)) :=
  exec_bootRead (s := bootState slot s k) hs rfl

theorem bootRun (hboot : s.store.boot = .load (freshLoad slot)) : ∀ k, k ≤ 8 →
    runAll (List.replicate k .sectorReadDone) s = .next (bootState slot s k)
  | 0, _ => by
    have hstart : bootState slot s 0 = s := by
      simp only [bootState, setBoot, progress, tablesRead, ← hboot]
    rw [hstart]
    rfl
  | k + 1, hk => by
    have hmore : ¬8 ≤ (progress slot s k).sectorsRead := by
      rw [progress_sectorsRead]
      omega
    rw [runAll_replicate_succ (bootRun hboot k (by omega)), exec_bootState hs]
    exact congrArg Host.Outcome.next (if_neg hmore)

/-- The end of the boot's load: the commit when the reading matched, else CHECK_FAILED (R162). -/
theorem bootRun_ends (hboot : s.store.boot = .load (freshLoad slot)) : runAll (List.replicate 9 .sectorReadDone) s =
    .next (if (progress slot s 9).matched = true then
      bootCommit (bootLoaded slot s)
    else endBoot .checkFailed (setDirectory slot (plainEntry .damaged)
      (setBoot (.load (progress slot s 8)) { s with tables := tablesRead slot s 9 }))) := by
  have hlast : 8 ≤ (progress slot s 8).sectorsRead := (progress_sectorsRead slot s 8).ge
  rw [runAll_replicate_succ (bootRun hs hboot 8 (Nat.le_refl 8)), exec_bootState hs, bootLoadStep, if_pos hlast,
    progress_slot]
  rfl

end

/-- A boot's load of a saved bank: the reading matches, and its bank stands in the staging bank. -/
theorem bootRun_saved {s : State} {slot : Fin 6} {b : Bank} {label : Word} {g : BitVec 32} (hs : s.inReset = false)
    (hb : b.wf) (hboot : s.store.boot = .load (freshLoad slot)) (hsaved : holdsBank slot b label g s) :
    runAll (List.replicate 9 .sectorReadDone) s = .next (bootCommit (bootLoaded slot s)) ∧
    stagingBank (bootLoaded slot s) = b := by
  obtain ⟨hheader, himage⟩ := hsaved
  obtain ⟨hrole, -⟩ := tablesRead_frame slot s 9
  have hmatched : (progress slot s 9).matched = true := by
    refine (matched_advance_iff (progress_sectorsRead slot s 8)).mpr ?_
    rw [progress_words, progress_slot, imageBase, Memory.slice_append, himage]
    exact progress_matched hb himage hheader
  exact ⟨(bootRun_ends hs hboot).trans (congrArg Host.Outcome.next (if_pos hmatched)),
    (congrArg (fun id : BankId => (tablesRead slot s 9).bank id.other) hrole).trans (bankRead_saved hb himage hheader)⟩

/-- The autorun of a boot, from the entry 0/1 (R162). -/
theorem autorun_eq {s : State} (hposition : s.seq.position = 0) (hrepetition : s.seq.repetition = 1) : autorun s =
    if s.store.current.autorun = .off then s
    else makeEntry { s with
      triggers := { s.triggers with queue := [] }
      seq := { s.seq with
        mode := if s.store.current.autorun = .onePass then .onePass else .continuous
        passesRequested := if s.store.current.autorun = .onePass then 1 else s.seq.passesRequested
        passesTaken := 0
        stopReason := .none
        pauseRequest := false
        passCount := 0
        sequence := 0 } } := by
  cases hautorun : s.store.current.autorun with
  | off => simp only [autorun, hautorun, if_true]
  | onePass => simp [autorun, hautorun, startRun_eq, hposition, hrepetition]
  | continuous => simp [autorun, hautorun, startRun_eq, hposition, hrepetition]

theorem bootCommit_invalid {s : State} (h : (stagingBank s).validate ≠ none) : bootCommit s = endBoot .invalid s := by
  cases hvalidate : (stagingBank s).validate with
  | none => exact absurd hvalidate h
  | some _ => simp only [bootCommit, hvalidate]

theorem bootCommit_valid {s : State} (h : (stagingBank s).validate = none) :
    bootCommit s = autorun (endBoot .loaded (swapBanks s)) := by
  simp only [bootCommit, h]

theorem other_other (id : BankId) : id.other.other = id := by
  cases id <;> rfl

/-- A boot's load of a bank that validates: the swap, the flags and BOOTING's end, before the autorun (R162). -/
def bootSwapped (slot : Fin 6) (s : State) : State := endBoot .loaded (swapBanks (bootLoaded slot s))

theorem bootSwapped_eq {slot : Fin 6} {s : State} (h : s.port.kind ≠ .read) : bootSwapped slot s = { s with
    tables := { tablesRead slot s 9 with
      active := (tablesRead slot s 9).active.other
      commitPending := false
      incomplete := false }
    seq := { s.seq with position := 0, repetition := 1 }
    store := { s.store with boot := .done, bootOutcome := .loaded }
    status := { s.status with flags := s.status.flags ||| commitTakenFlag ||| bootDoneFlag } } := by
  have hread : endReadSession (bootLoaded slot s) = bootLoaded slot s := if_neg h
  rw [bootSwapped, swapBanks_eq, hread]
  rfl

/-- A sector read of the scan in an image (R161). -/
theorem scanImage_reads (slot : Fin 6) (w : HeaderWords) {n : Nat} (words : List Word) (s : State) (hn : n < 7) :
    scanImage slot w n words s = setBoot (.scanImage slot w (n + 1)
      (words ++ s.store.array.images.slice (4096 * slot.val + 512 * n) 512)) s := by
  have hmore : n + 1 < 8 := by omega
  rw [scanImage, if_pos hmore, imageBase, Nat.add_sub_cancel]

/-- The scan's read of the last sector of an image judges the slot (R161). -/
theorem scanImage_judges (slot : Fin 6) (w : HeaderWords) (words : List Word) (s : State) :
    scanImage slot w 7 words s = judgeSlot slot
      (if w.matchesImage (words ++ s.store.array.images.slice (4096 * slot.val + 3584) 512) = true then
        { state := .valid, label := w.label, generation := w.generation }
      else { state := .damaged, label := 0, generation := 0 }) s := by
  rw [apply_ite (fun e => judgeSlot slot e s)]
  rfl

/-- Settles O50: the scan read by read, the choice of the current record, and the boot's load in its three ends. -/
theorem scanJudgesSlots : Obligations.ScanJudgesSlots := by
  refine ⟨fun s slot hs hboot => ⟨_, exec_scanHeader hs hboot, ?_⟩,
    fun s slot w n words hs hboot => ⟨fun hn => ?_, fun hn => ?_⟩,
    fun s hs hboot => exec_scanStartup54 hs hboot,
    fun s first cur copy hs hboot hchoice => ?_,
    fun s slot b label g hs hb hboot hsaved => ⟨fun hinvalid => ?_, fun hvalid hport => ?_⟩,
    fun s slot w hs hboot hheader hmismatch => ?_⟩
  · by_cases hcommitted : (s.store.array.headers[slot]).condition = .committed
    · obtain ⟨w, hheader, heq⟩ := scanHeader_committed hcommitted
      rw [if_pos hcommitted, heq]
      exact ⟨⟨rfl, w, hheader, rfl⟩, rfl⟩
    · rw [if_neg hcommitted, scanHeader_judged hcommitted, judgeSlot_eq]
      exact ⟨⟨rfl, rfl⟩, rfl⟩
  · rw [exec_scanImage hs hboot, scanImage_reads slot w words s hn]
    rfl
  · subst hn
    rw [exec_scanImage hs hboot, scanImage_judges, judgeSlot_eq]
  · have hchosen : chooseStartup first (s.store.array.startups[1]).judge = (cur, copy) := by
      revert hchoice
      cases first <;> cases (s.store.array.startups[1]).judge
      case none.none => exact fun ⟨hcur, hcopy⟩ => hcur ▸ hcopy ▸ rfl
      case some.none => exact fun ⟨hcur, hcopy⟩ => hcur ▸ hcopy ▸ rfl
      case none.some => exact fun ⟨hcur, hcopy⟩ => hcur ▸ hcopy ▸ rfl
      case some.some a b =>
        simp only [chooseStartup, ← newerIn55_iff]
        intro h
        split_ifs at h ⊢ <;> exact h.1 ▸ h.2 ▸ rfl
    have hexec : exec .sectorReadDone s =
        .next (startBoot { s with store := { s.store with current := cur, currentCopy := copy } }) := by
      rw [exec_scanStartup55 hs hboot, scanStartup55, hchosen]
    refine ⟨fun o ho => ?_, fun slot hslot hstate => ?_⟩
    · rw [hexec, startBoot_ends ho]
      rfl
    · exact hexec.trans (congrArg Host.Outcome.next
        (startBoot_loads (s := { s with store := { s.store with current := cur, currentCopy := copy } }) hslot hstate))
  · obtain ⟨hrun, hstaging⟩ := bootRun_saved hs hb hboot hsaved
    obtain ⟨hrole, hpending, -, hkept⟩ := tablesRead_frame slot s 9
    rw [bootCommit_invalid (hstaging.symm ▸ hinvalid)] at hrun
    refine ⟨_, hrun, hstaging, ?_, hrole, hpending, rfl, rfl⟩
    change (tablesRead slot s 9).bank (tablesRead slot s 9).active = activeBank s
    rw [hrole]
    exact hkept
  · obtain ⟨hrun, hstaging⟩ := bootRun_saved hs hb hboot hsaved
    obtain ⟨hrole, hpending, -, hkept⟩ := tablesRead_frame slot s 9
    have heq := bootSwapped_eq (slot := slot) hport
    rw [bootCommit_valid (hstaging.symm ▸ hvalid)] at hrun
    refine ⟨bootSwapped slot s, ?_, ?_, ?_, ?_, ?_, ?_, hrun.trans (congrArg Host.Outcome.next ?_)⟩
    · rw [heq]
      exact hstaging
    · rw [heq]
      change (tablesRead slot s 9).bank (tablesRead slot s 9).active.other.other = activeBank s
      rw [other_other, hrole]
      exact hkept
    · rw [heq]
      exact congrArg BankId.other hrole
    · rw [heq]
    · rw [heq]
    · rw [heq]
    · change autorun (bootSwapped slot s) = _
      rw [heq]
      exact autorun_eq rfl rfl
  · obtain ⟨hrole, hpending, hincomplete, hkept⟩ := tablesRead_frame slot s 9
    have hfails : (progress slot s 9).matched ≠ true := by
      intro hmatched
      obtain ⟨w', hw', -, hmatches, -⟩ := (matched_advance_iff (progress_sectorsRead slot s 8)).mp hmatched
      rw [progress_header, hheader] at hw'
      obtain rfl := HeaderSector.written.inj hw'
      rw [progress_words, progress_slot, imageBase, Memory.slice_append, hmismatch] at hmatches
      exact Bool.false_ne_true hmatches
    refine ⟨_, (bootRun_ends hs hboot).trans (congrArg Host.Outcome.next (if_neg hfails)), ?_, hrole, hpending,
      hincomplete, rfl⟩
    change (tablesRead slot s 9).bank (tablesRead slot s 9).active = activeBank s
    rw [hrole]
    exact hkept

end Sys2Proof.Proofs
end
